-- ==== Sys2Proof/Word.lean ====
section
/-! DEFINITION. The word types of the machine: bytes, 16-bit addresses and the 15-bit VRAM address registers
(00_scope.md R6, R8). -/

namespace Sys2Proof

/-- An 8-bit byte, the only unit either bus moves (R80). -/
abbrev Byte := BitVec 8

/-- A 16-bit CPU address or program counter (R6). -/
abbrev Word := BitVec 16

/-- The 15 significant bits of the VRAM address registers `v` and `t` (R43). -/
abbrev VramAddr := BitVec 15

/-- A colour, as the renderer receives it (R7: `PALETTE_RGB` maps to 24-bit colours). -/
abbrev Rgb := BitVec 24

end Sys2Proof
end

