-- ==== Sys2Proof/Machine/Cartridge.lean ====
section
/-! DEFINITION. The cartridge image (20_memory.md R85 to R87): its header bytes, which images are admitted, and its slices. -/

namespace Sys2Proof.Machine

/-- The length of the image's header in bytes (R85). -/
def headerBytes : Nat := 16

/-- Byte 4 of the header: the program-ROM page count, in units of 16 KiB (R85). -/
def imagePrgPages (image : List Byte) : Nat := (image.getD 4 0x00#8).toNat

/-- Byte 5 of the header: the character-ROM page count, in units of 8 KiB (R85). -/
def imageChrPages (image : List Byte) : Nat := (image.getD 5 0x00#8).toNat

/-- Which images a machine is built from (R87): one or two program pages, one character page, and long enough. No other header
byte is read (R86). -/
def imageAdmitted (image : List Byte) : Bool :=
  (imagePrgPages image == 1 || imagePrgPages image == 2) && imageChrPages image == 1 &&
    decide (headerBytes + 16384 * imagePrgPages image + 8192 * imageChrPages image ≤ image.length)

/-- The program slice of an image (R85). -/
def imagePrg (image : List Byte) : List Byte := (image.drop headerBytes).take (16384 * imagePrgPages image)

/-- The character slice of an image (R85). -/
def imageChr (image : List Byte) : List Byte :=
  (image.drop (headerBytes + 16384 * imagePrgPages image)).take (8192 * imageChrPages image)

end Sys2Proof.Machine
end

