-- ==== Sys2Proof/Syntax.lean ====
section
/-! DEFINITION. The instruction set as syntax: the addressing modes, the mnemonics, the shape of a table row, the operand forms
and `Instr`, one constructor per row of spec/opcode_table.json (30_encoding.md R100 to R106). -/

namespace Sys2Proof

/-- The 13 addressing modes (R101) and `none` for the halt slots, which have no table row (R293). -/
inductive Mode where
  | implied | accumulator | immediate | zeroPage | zeroPageX | zeroPageY | relative
  | absolute | absoluteX | absoluteY | indirect | indexedIndirect | indirectIndexed | none
  deriving DecidableEq, Repr

/-- The 75 mnemonics of the table and the placeholder `KIL` (R102, R293). -/
inductive Mnemonic where
  | lda | ldx | ldy | sta | stx | sty | tax | tay | tsx | txa | txs | tya | adc | sbc | and | ora | eor
  | cmp | cpx | cpy | bit | inc | dec | inx | iny | dex | dey | asl | lsr | rol | ror | jmp | jsr | rts
  | rti | brk | bcc | bcs | beq | bmi | bne | bpl | bvc | bvs | pha | php | pla | plp | clc | cld | cli
  | clv | sec | sed | sei | nop | lax | sax | dcp | isb | slo | rla | sre | rra | anc | alr | arr | axs
  | las | xaa | lxa | ahx | shy | shx | tas | kil
  deriving DecidableEq, Repr

/-- The four tiers of the opcode map (R104). -/
inductive Tier where
  /-- Official, normative: 151 opcodes. -/
  | official
  /-- Unofficial, normative: 80 opcodes. -/
  | normative
  /-- Unofficial, executed only under `ADMIT_TIER3` (R281): 13 opcodes. -/
  | gated
  /-- The halt slots, without a table row (R293): 12 opcodes. -/
  | halt
  deriving DecidableEq, Repr

/-- A row of the instruction table (R102), with the derived column `pagePenalty`. -/
structure Row where
  opcode : Byte
  mnemonic : Mnemonic
  mode : Mode
  baseCycles : Nat
  pagePenalty : Bool
  official : Bool
  tier : Tier
  deriving DecidableEq, Repr

/-- The operand field of an instruction, by addressing mode (R101). -/
inductive Operand where
  | none
  | implied
  | accumulator
  | immediate (imm : Byte)
  | zeroPage (zp : Byte)
  | zeroPageX (zp : Byte)
  | zeroPageY (zp : Byte)
  | relative (off : Byte)
  | absolute (addr : Word)
  | absoluteX (addr : Word)
  | absoluteY (addr : Word)
  | indirect (ptr : Word)
  | indexedIndirect (zp : Byte)
  | indirectIndexed (zp : Byte)
  deriving DecidableEq, Repr

/-- The instructions: one constructor per row of the opcode table (R104 to R106). A name is the mnemonic and the mode's
abbreviation, and the opcode where the table has the pair twice. -/
inductive Instr where
  /-- A1: LDA IndexedIndirect (R170). -/
  | ldaIzx (zp : Byte)
  /-- A5: LDA ZeroPage (R170). -/
  | ldaZp (zp : Byte)
  /-- A9: LDA Immediate (R170). -/
  | ldaImm (imm : Byte)
  /-- AD: LDA Absolute (R170). -/
  | ldaAbs (addr : Word)
  /-- B1: LDA IndirectIndexed (R170). -/
  | ldaIzy (zp : Byte)
  /-- B5: LDA ZeroPageX (R170). -/
  | ldaZpx (zp : Byte)
  /-- B9: LDA AbsoluteY (R170). -/
  | ldaAby (addr : Word)
  /-- BD: LDA AbsoluteX (R170). -/
  | ldaAbx (addr : Word)
  /-- A2: LDX Immediate (R171). -/
  | ldxImm (imm : Byte)
  /-- A6: LDX ZeroPage (R171). -/
  | ldxZp (zp : Byte)
  /-- AE: LDX Absolute (R171). -/
  | ldxAbs (addr : Word)
  /-- B6: LDX ZeroPageY (R171). -/
  | ldxZpy (zp : Byte)
  /-- BE: LDX AbsoluteY (R171). -/
  | ldxAby (addr : Word)
  /-- A0: LDY Immediate (R172). -/
  | ldyImm (imm : Byte)
  /-- A4: LDY ZeroPage (R172). -/
  | ldyZp (zp : Byte)
  /-- AC: LDY Absolute (R172). -/
  | ldyAbs (addr : Word)
  /-- B4: LDY ZeroPageX (R172). -/
  | ldyZpx (zp : Byte)
  /-- BC: LDY AbsoluteX (R172). -/
  | ldyAbx (addr : Word)
  /-- 81: STA IndexedIndirect (R173). -/
  | staIzx (zp : Byte)
  /-- 85: STA ZeroPage (R173). -/
  | staZp (zp : Byte)
  /-- 8D: STA Absolute (R173). -/
  | staAbs (addr : Word)
  /-- 91: STA IndirectIndexed (R173). -/
  | staIzy (zp : Byte)
  /-- 95: STA ZeroPageX (R173). -/
  | staZpx (zp : Byte)
  /-- 99: STA AbsoluteY (R173). -/
  | staAby (addr : Word)
  /-- 9D: STA AbsoluteX (R173). -/
  | staAbx (addr : Word)
  /-- 86: STX ZeroPage (R174). -/
  | stxZp (zp : Byte)
  /-- 8E: STX Absolute (R174). -/
  | stxAbs (addr : Word)
  /-- 96: STX ZeroPageY (R174). -/
  | stxZpy (zp : Byte)
  /-- 84: STY ZeroPage (R175). -/
  | styZp (zp : Byte)
  /-- 8C: STY Absolute (R175). -/
  | styAbs (addr : Word)
  /-- 94: STY ZeroPageX (R175). -/
  | styZpx (zp : Byte)
  /-- AA: TAX Implied (R176). -/
  | tax
  /-- A8: TAY Implied (R177). -/
  | tay
  /-- BA: TSX Implied (R178). -/
  | tsx
  /-- 8A: TXA Implied (R179). -/
  | txa
  /-- 9A: TXS Implied (R180). -/
  | txs
  /-- 98: TYA Implied (R181). -/
  | tya
  /-- 61: ADC IndexedIndirect (R191). -/
  | adcIzx (zp : Byte)
  /-- 65: ADC ZeroPage (R191). -/
  | adcZp (zp : Byte)
  /-- 69: ADC Immediate (R191). -/
  | adcImm (imm : Byte)
  /-- 6D: ADC Absolute (R191). -/
  | adcAbs (addr : Word)
  /-- 71: ADC IndirectIndexed (R191). -/
  | adcIzy (zp : Byte)
  /-- 75: ADC ZeroPageX (R191). -/
  | adcZpx (zp : Byte)
  /-- 79: ADC AbsoluteY (R191). -/
  | adcAby (addr : Word)
  /-- 7D: ADC AbsoluteX (R191). -/
  | adcAbx (addr : Word)
  /-- E9: SBC Immediate (R193). -/
  | sbcImm (imm : Byte)
  /-- E1: SBC IndexedIndirect (R193). -/
  | sbcIzx (zp : Byte)
  /-- E5: SBC ZeroPage (R193). -/
  | sbcZp (zp : Byte)
  /-- EB: SBC Immediate (R274). -/
  | sbcImmEB (imm : Byte)
  /-- ED: SBC Absolute (R193). -/
  | sbcAbs (addr : Word)
  /-- F1: SBC IndirectIndexed (R193). -/
  | sbcIzy (zp : Byte)
  /-- F5: SBC ZeroPageX (R193). -/
  | sbcZpx (zp : Byte)
  /-- F9: SBC AbsoluteY (R193). -/
  | sbcAby (addr : Word)
  /-- FD: SBC AbsoluteX (R193). -/
  | sbcAbx (addr : Word)
  /-- 21: AND IndexedIndirect (R194). -/
  | andIzx (zp : Byte)
  /-- 25: AND ZeroPage (R194). -/
  | andZp (zp : Byte)
  /-- 29: AND Immediate (R194). -/
  | andImm (imm : Byte)
  /-- 2D: AND Absolute (R194). -/
  | andAbs (addr : Word)
  /-- 31: AND IndirectIndexed (R194). -/
  | andIzy (zp : Byte)
  /-- 35: AND ZeroPageX (R194). -/
  | andZpx (zp : Byte)
  /-- 39: AND AbsoluteY (R194). -/
  | andAby (addr : Word)
  /-- 3D: AND AbsoluteX (R194). -/
  | andAbx (addr : Word)
  /-- 01: ORA IndexedIndirect (R195). -/
  | oraIzx (zp : Byte)
  /-- 05: ORA ZeroPage (R195). -/
  | oraZp (zp : Byte)
  /-- 09: ORA Immediate (R195). -/
  | oraImm (imm : Byte)
  /-- 0D: ORA Absolute (R195). -/
  | oraAbs (addr : Word)
  /-- 11: ORA IndirectIndexed (R195). -/
  | oraIzy (zp : Byte)
  /-- 15: ORA ZeroPageX (R195). -/
  | oraZpx (zp : Byte)
  /-- 19: ORA AbsoluteY (R195). -/
  | oraAby (addr : Word)
  /-- 1D: ORA AbsoluteX (R195). -/
  | oraAbx (addr : Word)
  /-- 41: EOR IndexedIndirect (R196). -/
  | eorIzx (zp : Byte)
  /-- 45: EOR ZeroPage (R196). -/
  | eorZp (zp : Byte)
  /-- 49: EOR Immediate (R196). -/
  | eorImm (imm : Byte)
  /-- 4D: EOR Absolute (R196). -/
  | eorAbs (addr : Word)
  /-- 51: EOR IndirectIndexed (R196). -/
  | eorIzy (zp : Byte)
  /-- 55: EOR ZeroPageX (R196). -/
  | eorZpx (zp : Byte)
  /-- 59: EOR AbsoluteY (R196). -/
  | eorAby (addr : Word)
  /-- 5D: EOR AbsoluteX (R196). -/
  | eorAbx (addr : Word)
  /-- C1: CMP IndexedIndirect (R198). -/
  | cmpIzx (zp : Byte)
  /-- C5: CMP ZeroPage (R198). -/
  | cmpZp (zp : Byte)
  /-- C9: CMP Immediate (R198). -/
  | cmpImm (imm : Byte)
  /-- CD: CMP Absolute (R198). -/
  | cmpAbs (addr : Word)
  /-- D1: CMP IndirectIndexed (R198). -/
  | cmpIzy (zp : Byte)
  /-- D5: CMP ZeroPageX (R198). -/
  | cmpZpx (zp : Byte)
  /-- D9: CMP AbsoluteY (R198). -/
  | cmpAby (addr : Word)
  /-- DD: CMP AbsoluteX (R198). -/
  | cmpAbx (addr : Word)
  /-- E0: CPX Immediate (R199). -/
  | cpxImm (imm : Byte)
  /-- E4: CPX ZeroPage (R199). -/
  | cpxZp (zp : Byte)
  /-- EC: CPX Absolute (R199). -/
  | cpxAbs (addr : Word)
  /-- C0: CPY Immediate (R200). -/
  | cpyImm (imm : Byte)
  /-- C4: CPY ZeroPage (R200). -/
  | cpyZp (zp : Byte)
  /-- CC: CPY Absolute (R200). -/
  | cpyAbs (addr : Word)
  /-- 24: BIT ZeroPage (R201). -/
  | bitZp (zp : Byte)
  /-- 2C: BIT Absolute (R201). -/
  | bitAbs (addr : Word)
  /-- E6: INC ZeroPage (R202). -/
  | incZp (zp : Byte)
  /-- EE: INC Absolute (R202). -/
  | incAbs (addr : Word)
  /-- F6: INC ZeroPageX (R202). -/
  | incZpx (zp : Byte)
  /-- FE: INC AbsoluteX (R202). -/
  | incAbx (addr : Word)
  /-- C6: DEC ZeroPage (R203). -/
  | decZp (zp : Byte)
  /-- CE: DEC Absolute (R203). -/
  | decAbs (addr : Word)
  /-- D6: DEC ZeroPageX (R203). -/
  | decZpx (zp : Byte)
  /-- DE: DEC AbsoluteX (R203). -/
  | decAbx (addr : Word)
  /-- E8: INX Implied (R204). -/
  | inx
  /-- C8: INY Implied (R205). -/
  | iny
  /-- CA: DEX Implied (R206). -/
  | dex
  /-- 88: DEY Implied (R207). -/
  | dey
  /-- 06: ASL ZeroPage (R221). -/
  | aslZp (zp : Byte)
  /-- 0A: ASL Accumulator (R221). -/
  | aslAcc
  /-- 0E: ASL Absolute (R221). -/
  | aslAbs (addr : Word)
  /-- 16: ASL ZeroPageX (R221). -/
  | aslZpx (zp : Byte)
  /-- 1E: ASL AbsoluteX (R221). -/
  | aslAbx (addr : Word)
  /-- 46: LSR ZeroPage (R222). -/
  | lsrZp (zp : Byte)
  /-- 4A: LSR Accumulator (R222). -/
  | lsrAcc
  /-- 4E: LSR Absolute (R222). -/
  | lsrAbs (addr : Word)
  /-- 56: LSR ZeroPageX (R222). -/
  | lsrZpx (zp : Byte)
  /-- 5E: LSR AbsoluteX (R222). -/
  | lsrAbx (addr : Word)
  /-- 26: ROL ZeroPage (R223). -/
  | rolZp (zp : Byte)
  /-- 2A: ROL Accumulator (R223). -/
  | rolAcc
  /-- 2E: ROL Absolute (R223). -/
  | rolAbs (addr : Word)
  /-- 36: ROL ZeroPageX (R223). -/
  | rolZpx (zp : Byte)
  /-- 3E: ROL AbsoluteX (R223). -/
  | rolAbx (addr : Word)
  /-- 66: ROR ZeroPage (R224). -/
  | rorZp (zp : Byte)
  /-- 6A: ROR Accumulator (R224). -/
  | rorAcc
  /-- 6E: ROR Absolute (R224). -/
  | rorAbs (addr : Word)
  /-- 76: ROR ZeroPageX (R224). -/
  | rorZpx (zp : Byte)
  /-- 7E: ROR AbsoluteX (R224). -/
  | rorAbx (addr : Word)
  /-- 4C: JMP Absolute (R230). -/
  | jmpAbs (addr : Word)
  /-- 6C: JMP Indirect (R230). -/
  | jmpInd (ptr : Word)
  /-- 20: JSR Absolute (R231). -/
  | jsrAbs (addr : Word)
  /-- 60: RTS Implied (R232). -/
  | rts
  /-- 40: RTI Implied (R233). -/
  | rti
  /-- 00: BRK Implied (R234). -/
  | brk
  /-- 90: BCC Relative (R236). -/
  | bcc (off : Byte)
  /-- B0: BCS Relative (R237). -/
  | bcs (off : Byte)
  /-- F0: BEQ Relative (R238). -/
  | beq (off : Byte)
  /-- 30: BMI Relative (R239). -/
  | bmi (off : Byte)
  /-- D0: BNE Relative (R240). -/
  | bne (off : Byte)
  /-- 10: BPL Relative (R241). -/
  | bpl (off : Byte)
  /-- 50: BVC Relative (R242). -/
  | bvc (off : Byte)
  /-- 70: BVS Relative (R243). -/
  | bvs (off : Byte)
  /-- 48: PHA Implied (R250). -/
  | pha
  /-- 08: PHP Implied (R251). -/
  | php
  /-- 68: PLA Implied (R252). -/
  | pla
  /-- 28: PLP Implied (R253). -/
  | plp
  /-- 18: CLC Implied (R254). -/
  | clc
  /-- D8: CLD Implied (R255). -/
  | cld
  /-- 58: CLI Implied (R256). -/
  | cli
  /-- B8: CLV Implied (R257). -/
  | clv
  /-- 38: SEC Implied (R258). -/
  | sec
  /-- F8: SED Implied (R259). -/
  | sed
  /-- 78: SEI Implied (R260). -/
  | sei
  /-- EA: NOP Implied (R261). -/
  | nop
  /-- 04: NOP ZeroPage (R271). -/
  | nopZp04 (zp : Byte)
  /-- 0C: NOP Absolute (R271). -/
  | nopAbs (addr : Word)
  /-- 14: NOP ZeroPageX (R271). -/
  | nopZpx14 (zp : Byte)
  /-- 1A: NOP Implied (R271). -/
  | nop1A
  /-- 1C: NOP AbsoluteX (R271). -/
  | nopAbx1C (addr : Word)
  /-- 34: NOP ZeroPageX (R271). -/
  | nopZpx34 (zp : Byte)
  /-- 3A: NOP Implied (R271). -/
  | nop3A
  /-- 3C: NOP AbsoluteX (R271). -/
  | nopAbx3C (addr : Word)
  /-- 44: NOP ZeroPage (R271). -/
  | nopZp44 (zp : Byte)
  /-- 54: NOP ZeroPageX (R271). -/
  | nopZpx54 (zp : Byte)
  /-- 5A: NOP Implied (R271). -/
  | nop5A
  /-- 5C: NOP AbsoluteX (R271). -/
  | nopAbx5C (addr : Word)
  /-- 64: NOP ZeroPage (R271). -/
  | nopZp64 (zp : Byte)
  /-- 74: NOP ZeroPageX (R271). -/
  | nopZpx74 (zp : Byte)
  /-- 7A: NOP Implied (R271). -/
  | nop7A
  /-- 7C: NOP AbsoluteX (R271). -/
  | nopAbx7C (addr : Word)
  /-- 80: NOP Immediate (R271). -/
  | nopImm80 (imm : Byte)
  /-- 82: NOP Immediate (R271). -/
  | nopImm82 (imm : Byte)
  /-- 89: NOP Immediate (R271). -/
  | nopImm89 (imm : Byte)
  /-- C2: NOP Immediate (R271). -/
  | nopImmC2 (imm : Byte)
  /-- D4: NOP ZeroPageX (R271). -/
  | nopZpxD4 (zp : Byte)
  /-- DA: NOP Implied (R271). -/
  | nopDA
  /-- DC: NOP AbsoluteX (R271). -/
  | nopAbxDC (addr : Word)
  /-- E2: NOP Immediate (R271). -/
  | nopImmE2 (imm : Byte)
  /-- F4: NOP ZeroPageX (R271). -/
  | nopZpxF4 (zp : Byte)
  /-- FA: NOP Implied (R271). -/
  | nopFA
  /-- FC: NOP AbsoluteX (R271). -/
  | nopAbxFC (addr : Word)
  /-- A3: LAX IndexedIndirect (R272). -/
  | laxIzx (zp : Byte)
  /-- A7: LAX ZeroPage (R272). -/
  | laxZp (zp : Byte)
  /-- AF: LAX Absolute (R272). -/
  | laxAbs (addr : Word)
  /-- B3: LAX IndirectIndexed (R272). -/
  | laxIzy (zp : Byte)
  /-- B7: LAX ZeroPageY (R272). -/
  | laxZpy (zp : Byte)
  /-- BF: LAX AbsoluteY (R272). -/
  | laxAby (addr : Word)
  /-- 83: SAX IndexedIndirect (R273). -/
  | saxIzx (zp : Byte)
  /-- 87: SAX ZeroPage (R273). -/
  | saxZp (zp : Byte)
  /-- 8F: SAX Absolute (R273). -/
  | saxAbs (addr : Word)
  /-- 97: SAX ZeroPageY (R273). -/
  | saxZpy (zp : Byte)
  /-- C3: DCP IndexedIndirect (R275). -/
  | dcpIzx (zp : Byte)
  /-- C7: DCP ZeroPage (R275). -/
  | dcpZp (zp : Byte)
  /-- CF: DCP Absolute (R275). -/
  | dcpAbs (addr : Word)
  /-- D3: DCP IndirectIndexed (R275). -/
  | dcpIzy (zp : Byte)
  /-- D7: DCP ZeroPageX (R275). -/
  | dcpZpx (zp : Byte)
  /-- DB: DCP AbsoluteY (R275). -/
  | dcpAby (addr : Word)
  /-- DF: DCP AbsoluteX (R275). -/
  | dcpAbx (addr : Word)
  /-- E3: ISB IndexedIndirect (R276). -/
  | isbIzx (zp : Byte)
  /-- E7: ISB ZeroPage (R276). -/
  | isbZp (zp : Byte)
  /-- EF: ISB Absolute (R276). -/
  | isbAbs (addr : Word)
  /-- F3: ISB IndirectIndexed (R276). -/
  | isbIzy (zp : Byte)
  /-- F7: ISB ZeroPageX (R276). -/
  | isbZpx (zp : Byte)
  /-- FB: ISB AbsoluteY (R276). -/
  | isbAby (addr : Word)
  /-- FF: ISB AbsoluteX (R276). -/
  | isbAbx (addr : Word)
  /-- 03: SLO IndexedIndirect (R277). -/
  | sloIzx (zp : Byte)
  /-- 07: SLO ZeroPage (R277). -/
  | sloZp (zp : Byte)
  /-- 0F: SLO Absolute (R277). -/
  | sloAbs (addr : Word)
  /-- 13: SLO IndirectIndexed (R277). -/
  | sloIzy (zp : Byte)
  /-- 17: SLO ZeroPageX (R277). -/
  | sloZpx (zp : Byte)
  /-- 1B: SLO AbsoluteY (R277). -/
  | sloAby (addr : Word)
  /-- 1F: SLO AbsoluteX (R277). -/
  | sloAbx (addr : Word)
  /-- 23: RLA IndexedIndirect (R278). -/
  | rlaIzx (zp : Byte)
  /-- 27: RLA ZeroPage (R278). -/
  | rlaZp (zp : Byte)
  /-- 2F: RLA Absolute (R278). -/
  | rlaAbs (addr : Word)
  /-- 33: RLA IndirectIndexed (R278). -/
  | rlaIzy (zp : Byte)
  /-- 37: RLA ZeroPageX (R278). -/
  | rlaZpx (zp : Byte)
  /-- 3B: RLA AbsoluteY (R278). -/
  | rlaAby (addr : Word)
  /-- 3F: RLA AbsoluteX (R278). -/
  | rlaAbx (addr : Word)
  /-- 43: SRE IndexedIndirect (R279). -/
  | sreIzx (zp : Byte)
  /-- 47: SRE ZeroPage (R279). -/
  | sreZp (zp : Byte)
  /-- 4F: SRE Absolute (R279). -/
  | sreAbs (addr : Word)
  /-- 53: SRE IndirectIndexed (R279). -/
  | sreIzy (zp : Byte)
  /-- 57: SRE ZeroPageX (R279). -/
  | sreZpx (zp : Byte)
  /-- 5B: SRE AbsoluteY (R279). -/
  | sreAby (addr : Word)
  /-- 5F: SRE AbsoluteX (R279). -/
  | sreAbx (addr : Word)
  /-- 63: RRA IndexedIndirect (R280). -/
  | rraIzx (zp : Byte)
  /-- 67: RRA ZeroPage (R280). -/
  | rraZp (zp : Byte)
  /-- 6F: RRA Absolute (R280). -/
  | rraAbs (addr : Word)
  /-- 73: RRA IndirectIndexed (R280). -/
  | rraIzy (zp : Byte)
  /-- 77: RRA ZeroPageX (R280). -/
  | rraZpx (zp : Byte)
  /-- 7B: RRA AbsoluteY (R280). -/
  | rraAby (addr : Word)
  /-- 7F: RRA AbsoluteX (R280). -/
  | rraAbx (addr : Word)
  /-- 0B: ANC Immediate (R282). -/
  | ancImm0B (imm : Byte)
  /-- 2B: ANC Immediate (R282). -/
  | ancImm2B (imm : Byte)
  /-- 4B: ALR Immediate (R283). -/
  | alrImm (imm : Byte)
  /-- 6B: ARR Immediate (R284). -/
  | arrImm (imm : Byte)
  /-- CB: AXS Immediate (R285). -/
  | axsImm (imm : Byte)
  /-- BB: LAS AbsoluteY (R286). -/
  | lasAby (addr : Word)
  /-- 8B: XAA Immediate (R287). -/
  | xaaImm (imm : Byte)
  /-- AB: LXA Immediate (R288). -/
  | lxaImm (imm : Byte)
  /-- 93: AHX IndirectIndexed (R289). -/
  | ahxIzy (zp : Byte)
  /-- 9F: AHX AbsoluteY (R289). -/
  | ahxAby (addr : Word)
  /-- 9C: SHY AbsoluteX (R290). -/
  | shyAbx (addr : Word)
  /-- 9E: SHX AbsoluteY (R291). -/
  | shxAby (addr : Word)
  /-- 9B: TAS AbsoluteY (R292). -/
  | tasAby (addr : Word)
  /-- 02: KIL halt slot (R293). -/
  | kil02
  /-- 12: KIL halt slot (R293). -/
  | kil12
  /-- 22: KIL halt slot (R293). -/
  | kil22
  /-- 32: KIL halt slot (R293). -/
  | kil32
  /-- 42: KIL halt slot (R293). -/
  | kil42
  /-- 52: KIL halt slot (R293). -/
  | kil52
  /-- 62: KIL halt slot (R293). -/
  | kil62
  /-- 72: KIL halt slot (R293). -/
  | kil72
  /-- 92: KIL halt slot (R293). -/
  | kil92
  /-- B2: KIL halt slot (R293). -/
  | kilB2
  /-- D2: KIL halt slot (R293). -/
  | kilD2
  /-- F2: KIL halt slot (R293). -/
  | kilF2
  deriving DecidableEq, Repr

/-- The mnemonic as the table prints it (R440). -/
def Mnemonic.text : Mnemonic → String
  | .lda => "LDA"
  | .ldx => "LDX"
  | .ldy => "LDY"
  | .sta => "STA"
  | .stx => "STX"
  | .sty => "STY"
  | .tax => "TAX"
  | .tay => "TAY"
  | .tsx => "TSX"
  | .txa => "TXA"
  | .txs => "TXS"
  | .tya => "TYA"
  | .adc => "ADC"
  | .sbc => "SBC"
  | .and => "AND"
  | .ora => "ORA"
  | .eor => "EOR"
  | .cmp => "CMP"
  | .cpx => "CPX"
  | .cpy => "CPY"
  | .bit => "BIT"
  | .inc => "INC"
  | .dec => "DEC"
  | .inx => "INX"
  | .iny => "INY"
  | .dex => "DEX"
  | .dey => "DEY"
  | .asl => "ASL"
  | .lsr => "LSR"
  | .rol => "ROL"
  | .ror => "ROR"
  | .jmp => "JMP"
  | .jsr => "JSR"
  | .rts => "RTS"
  | .rti => "RTI"
  | .brk => "BRK"
  | .bcc => "BCC"
  | .bcs => "BCS"
  | .beq => "BEQ"
  | .bmi => "BMI"
  | .bne => "BNE"
  | .bpl => "BPL"
  | .bvc => "BVC"
  | .bvs => "BVS"
  | .pha => "PHA"
  | .php => "PHP"
  | .pla => "PLA"
  | .plp => "PLP"
  | .clc => "CLC"
  | .cld => "CLD"
  | .cli => "CLI"
  | .clv => "CLV"
  | .sec => "SEC"
  | .sed => "SED"
  | .sei => "SEI"
  | .nop => "NOP"
  | .lax => "LAX"
  | .sax => "SAX"
  | .dcp => "DCP"
  | .isb => "ISB"
  | .slo => "SLO"
  | .rla => "RLA"
  | .sre => "SRE"
  | .rra => "RRA"
  | .anc => "ANC"
  | .alr => "ALR"
  | .arr => "ARR"
  | .axs => "AXS"
  | .las => "LAS"
  | .xaa => "XAA"
  | .lxa => "LXA"
  | .ahx => "AHX"
  | .shy => "SHY"
  | .shx => "SHX"
  | .tas => "TAS"
  | .kil => "KIL"

end Sys2Proof
end

