-- ==== Sys2Proof/Machine/InstructionTable.lean ====
section
/-! DEFINITION. The instruction table (30_encoding.md R102, R104 to R106): the row of every instruction, with its base cycles and
its page penalty. -/

namespace Sys2Proof

/-- How many operand bytes an addressing mode consumes (R101). -/
def Mode.operandBytes : Mode → Nat
  | .implied | .accumulator | .none => 0
  | .immediate | .zeroPage | .zeroPageX | .zeroPageY | .relative | .indexedIndirect | .indirectIndexed => 1
  | .absolute | .absoluteX | .absoluteY | .indirect => 2

/-- The table row of an instruction (R105, R106): opcode, mnemonic, mode, base cycles, page penalty, official bit and tier. A halt
slot has no row in the machine's table (R293); its entry here only names it. -/
def Instr.row : Instr → Row
  | .ldaIzx _ => ⟨0xA1#8, .lda, .indexedIndirect, 6, false, true, .official⟩
  | .ldaZp _ => ⟨0xA5#8, .lda, .zeroPage, 3, false, true, .official⟩
  | .ldaImm _ => ⟨0xA9#8, .lda, .immediate, 2, false, true, .official⟩
  | .ldaAbs _ => ⟨0xAD#8, .lda, .absolute, 4, false, true, .official⟩
  | .ldaIzy _ => ⟨0xB1#8, .lda, .indirectIndexed, 5, true, true, .official⟩
  | .ldaZpx _ => ⟨0xB5#8, .lda, .zeroPageX, 4, false, true, .official⟩
  | .ldaAby _ => ⟨0xB9#8, .lda, .absoluteY, 4, true, true, .official⟩
  | .ldaAbx _ => ⟨0xBD#8, .lda, .absoluteX, 4, true, true, .official⟩
  | .ldxImm _ => ⟨0xA2#8, .ldx, .immediate, 2, false, true, .official⟩
  | .ldxZp _ => ⟨0xA6#8, .ldx, .zeroPage, 3, false, true, .official⟩
  | .ldxAbs _ => ⟨0xAE#8, .ldx, .absolute, 4, false, true, .official⟩
  | .ldxZpy _ => ⟨0xB6#8, .ldx, .zeroPageY, 4, false, true, .official⟩
  | .ldxAby _ => ⟨0xBE#8, .ldx, .absoluteY, 4, true, true, .official⟩
  | .ldyImm _ => ⟨0xA0#8, .ldy, .immediate, 2, false, true, .official⟩
  | .ldyZp _ => ⟨0xA4#8, .ldy, .zeroPage, 3, false, true, .official⟩
  | .ldyAbs _ => ⟨0xAC#8, .ldy, .absolute, 4, false, true, .official⟩
  | .ldyZpx _ => ⟨0xB4#8, .ldy, .zeroPageX, 4, false, true, .official⟩
  | .ldyAbx _ => ⟨0xBC#8, .ldy, .absoluteX, 4, true, true, .official⟩
  | .staIzx _ => ⟨0x81#8, .sta, .indexedIndirect, 6, false, true, .official⟩
  | .staZp _ => ⟨0x85#8, .sta, .zeroPage, 3, false, true, .official⟩
  | .staAbs _ => ⟨0x8D#8, .sta, .absolute, 4, false, true, .official⟩
  | .staIzy _ => ⟨0x91#8, .sta, .indirectIndexed, 6, false, true, .official⟩
  | .staZpx _ => ⟨0x95#8, .sta, .zeroPageX, 4, false, true, .official⟩
  | .staAby _ => ⟨0x99#8, .sta, .absoluteY, 5, false, true, .official⟩
  | .staAbx _ => ⟨0x9D#8, .sta, .absoluteX, 5, false, true, .official⟩
  | .stxZp _ => ⟨0x86#8, .stx, .zeroPage, 3, false, true, .official⟩
  | .stxAbs _ => ⟨0x8E#8, .stx, .absolute, 4, false, true, .official⟩
  | .stxZpy _ => ⟨0x96#8, .stx, .zeroPageY, 4, false, true, .official⟩
  | .styZp _ => ⟨0x84#8, .sty, .zeroPage, 3, false, true, .official⟩
  | .styAbs _ => ⟨0x8C#8, .sty, .absolute, 4, false, true, .official⟩
  | .styZpx _ => ⟨0x94#8, .sty, .zeroPageX, 4, false, true, .official⟩
  | .tax => ⟨0xAA#8, .tax, .implied, 2, false, true, .official⟩
  | .tay => ⟨0xA8#8, .tay, .implied, 2, false, true, .official⟩
  | .tsx => ⟨0xBA#8, .tsx, .implied, 2, false, true, .official⟩
  | .txa => ⟨0x8A#8, .txa, .implied, 2, false, true, .official⟩
  | .txs => ⟨0x9A#8, .txs, .implied, 2, false, true, .official⟩
  | .tya => ⟨0x98#8, .tya, .implied, 2, false, true, .official⟩
  | .adcIzx _ => ⟨0x61#8, .adc, .indexedIndirect, 6, false, true, .official⟩
  | .adcZp _ => ⟨0x65#8, .adc, .zeroPage, 3, false, true, .official⟩
  | .adcImm _ => ⟨0x69#8, .adc, .immediate, 2, false, true, .official⟩
  | .adcAbs _ => ⟨0x6D#8, .adc, .absolute, 4, false, true, .official⟩
  | .adcIzy _ => ⟨0x71#8, .adc, .indirectIndexed, 5, true, true, .official⟩
  | .adcZpx _ => ⟨0x75#8, .adc, .zeroPageX, 4, false, true, .official⟩
  | .adcAby _ => ⟨0x79#8, .adc, .absoluteY, 4, true, true, .official⟩
  | .adcAbx _ => ⟨0x7D#8, .adc, .absoluteX, 4, true, true, .official⟩
  | .sbcImm _ => ⟨0xE9#8, .sbc, .immediate, 2, false, true, .official⟩
  | .sbcIzx _ => ⟨0xE1#8, .sbc, .indexedIndirect, 6, false, true, .official⟩
  | .sbcZp _ => ⟨0xE5#8, .sbc, .zeroPage, 3, false, true, .official⟩
  | .sbcImmEB _ => ⟨0xEB#8, .sbc, .immediate, 2, false, false, .normative⟩
  | .sbcAbs _ => ⟨0xED#8, .sbc, .absolute, 4, false, true, .official⟩
  | .sbcIzy _ => ⟨0xF1#8, .sbc, .indirectIndexed, 5, true, true, .official⟩
  | .sbcZpx _ => ⟨0xF5#8, .sbc, .zeroPageX, 4, false, true, .official⟩
  | .sbcAby _ => ⟨0xF9#8, .sbc, .absoluteY, 4, true, true, .official⟩
  | .sbcAbx _ => ⟨0xFD#8, .sbc, .absoluteX, 4, true, true, .official⟩
  | .andIzx _ => ⟨0x21#8, .and, .indexedIndirect, 6, false, true, .official⟩
  | .andZp _ => ⟨0x25#8, .and, .zeroPage, 3, false, true, .official⟩
  | .andImm _ => ⟨0x29#8, .and, .immediate, 2, false, true, .official⟩
  | .andAbs _ => ⟨0x2D#8, .and, .absolute, 4, false, true, .official⟩
  | .andIzy _ => ⟨0x31#8, .and, .indirectIndexed, 5, true, true, .official⟩
  | .andZpx _ => ⟨0x35#8, .and, .zeroPageX, 4, false, true, .official⟩
  | .andAby _ => ⟨0x39#8, .and, .absoluteY, 4, true, true, .official⟩
  | .andAbx _ => ⟨0x3D#8, .and, .absoluteX, 4, true, true, .official⟩
  | .oraIzx _ => ⟨0x01#8, .ora, .indexedIndirect, 6, false, true, .official⟩
  | .oraZp _ => ⟨0x05#8, .ora, .zeroPage, 3, false, true, .official⟩
  | .oraImm _ => ⟨0x09#8, .ora, .immediate, 2, false, true, .official⟩
  | .oraAbs _ => ⟨0x0D#8, .ora, .absolute, 4, false, true, .official⟩
  | .oraIzy _ => ⟨0x11#8, .ora, .indirectIndexed, 5, true, true, .official⟩
  | .oraZpx _ => ⟨0x15#8, .ora, .zeroPageX, 4, false, true, .official⟩
  | .oraAby _ => ⟨0x19#8, .ora, .absoluteY, 4, true, true, .official⟩
  | .oraAbx _ => ⟨0x1D#8, .ora, .absoluteX, 4, true, true, .official⟩
  | .eorIzx _ => ⟨0x41#8, .eor, .indexedIndirect, 6, false, true, .official⟩
  | .eorZp _ => ⟨0x45#8, .eor, .zeroPage, 3, false, true, .official⟩
  | .eorImm _ => ⟨0x49#8, .eor, .immediate, 2, false, true, .official⟩
  | .eorAbs _ => ⟨0x4D#8, .eor, .absolute, 4, false, true, .official⟩
  | .eorIzy _ => ⟨0x51#8, .eor, .indirectIndexed, 5, true, true, .official⟩
  | .eorZpx _ => ⟨0x55#8, .eor, .zeroPageX, 4, false, true, .official⟩
  | .eorAby _ => ⟨0x59#8, .eor, .absoluteY, 4, true, true, .official⟩
  | .eorAbx _ => ⟨0x5D#8, .eor, .absoluteX, 4, true, true, .official⟩
  | .cmpIzx _ => ⟨0xC1#8, .cmp, .indexedIndirect, 6, false, true, .official⟩
  | .cmpZp _ => ⟨0xC5#8, .cmp, .zeroPage, 3, false, true, .official⟩
  | .cmpImm _ => ⟨0xC9#8, .cmp, .immediate, 2, false, true, .official⟩
  | .cmpAbs _ => ⟨0xCD#8, .cmp, .absolute, 4, false, true, .official⟩
  | .cmpIzy _ => ⟨0xD1#8, .cmp, .indirectIndexed, 5, true, true, .official⟩
  | .cmpZpx _ => ⟨0xD5#8, .cmp, .zeroPageX, 4, false, true, .official⟩
  | .cmpAby _ => ⟨0xD9#8, .cmp, .absoluteY, 4, true, true, .official⟩
  | .cmpAbx _ => ⟨0xDD#8, .cmp, .absoluteX, 4, true, true, .official⟩
  | .cpxImm _ => ⟨0xE0#8, .cpx, .immediate, 2, false, true, .official⟩
  | .cpxZp _ => ⟨0xE4#8, .cpx, .zeroPage, 3, false, true, .official⟩
  | .cpxAbs _ => ⟨0xEC#8, .cpx, .absolute, 4, false, true, .official⟩
  | .cpyImm _ => ⟨0xC0#8, .cpy, .immediate, 2, false, true, .official⟩
  | .cpyZp _ => ⟨0xC4#8, .cpy, .zeroPage, 3, false, true, .official⟩
  | .cpyAbs _ => ⟨0xCC#8, .cpy, .absolute, 4, false, true, .official⟩
  | .bitZp _ => ⟨0x24#8, .bit, .zeroPage, 3, false, true, .official⟩
  | .bitAbs _ => ⟨0x2C#8, .bit, .absolute, 4, false, true, .official⟩
  | .incZp _ => ⟨0xE6#8, .inc, .zeroPage, 5, false, true, .official⟩
  | .incAbs _ => ⟨0xEE#8, .inc, .absolute, 6, false, true, .official⟩
  | .incZpx _ => ⟨0xF6#8, .inc, .zeroPageX, 6, false, true, .official⟩
  | .incAbx _ => ⟨0xFE#8, .inc, .absoluteX, 7, false, true, .official⟩
  | .decZp _ => ⟨0xC6#8, .dec, .zeroPage, 5, false, true, .official⟩
  | .decAbs _ => ⟨0xCE#8, .dec, .absolute, 6, false, true, .official⟩
  | .decZpx _ => ⟨0xD6#8, .dec, .zeroPageX, 6, false, true, .official⟩
  | .decAbx _ => ⟨0xDE#8, .dec, .absoluteX, 7, false, true, .official⟩
  | .inx => ⟨0xE8#8, .inx, .implied, 2, false, true, .official⟩
  | .iny => ⟨0xC8#8, .iny, .implied, 2, false, true, .official⟩
  | .dex => ⟨0xCA#8, .dex, .implied, 2, false, true, .official⟩
  | .dey => ⟨0x88#8, .dey, .implied, 2, false, true, .official⟩
  | .aslZp _ => ⟨0x06#8, .asl, .zeroPage, 5, false, true, .official⟩
  | .aslAcc => ⟨0x0A#8, .asl, .accumulator, 2, false, true, .official⟩
  | .aslAbs _ => ⟨0x0E#8, .asl, .absolute, 6, false, true, .official⟩
  | .aslZpx _ => ⟨0x16#8, .asl, .zeroPageX, 6, false, true, .official⟩
  | .aslAbx _ => ⟨0x1E#8, .asl, .absoluteX, 7, false, true, .official⟩
  | .lsrZp _ => ⟨0x46#8, .lsr, .zeroPage, 5, false, true, .official⟩
  | .lsrAcc => ⟨0x4A#8, .lsr, .accumulator, 2, false, true, .official⟩
  | .lsrAbs _ => ⟨0x4E#8, .lsr, .absolute, 6, false, true, .official⟩
  | .lsrZpx _ => ⟨0x56#8, .lsr, .zeroPageX, 6, false, true, .official⟩
  | .lsrAbx _ => ⟨0x5E#8, .lsr, .absoluteX, 7, false, true, .official⟩
  | .rolZp _ => ⟨0x26#8, .rol, .zeroPage, 5, false, true, .official⟩
  | .rolAcc => ⟨0x2A#8, .rol, .accumulator, 2, false, true, .official⟩
  | .rolAbs _ => ⟨0x2E#8, .rol, .absolute, 6, false, true, .official⟩
  | .rolZpx _ => ⟨0x36#8, .rol, .zeroPageX, 6, false, true, .official⟩
  | .rolAbx _ => ⟨0x3E#8, .rol, .absoluteX, 7, false, true, .official⟩
  | .rorZp _ => ⟨0x66#8, .ror, .zeroPage, 5, false, true, .official⟩
  | .rorAcc => ⟨0x6A#8, .ror, .accumulator, 2, false, true, .official⟩
  | .rorAbs _ => ⟨0x6E#8, .ror, .absolute, 6, false, true, .official⟩
  | .rorZpx _ => ⟨0x76#8, .ror, .zeroPageX, 6, false, true, .official⟩
  | .rorAbx _ => ⟨0x7E#8, .ror, .absoluteX, 7, false, true, .official⟩
  | .jmpAbs _ => ⟨0x4C#8, .jmp, .absolute, 3, false, true, .official⟩
  | .jmpInd _ => ⟨0x6C#8, .jmp, .indirect, 5, false, true, .official⟩
  | .jsrAbs _ => ⟨0x20#8, .jsr, .absolute, 6, false, true, .official⟩
  | .rts => ⟨0x60#8, .rts, .implied, 6, false, true, .official⟩
  | .rti => ⟨0x40#8, .rti, .implied, 6, false, true, .official⟩
  | .brk => ⟨0x00#8, .brk, .implied, 7, false, true, .official⟩
  | .bcc _ => ⟨0x90#8, .bcc, .relative, 2, false, true, .official⟩
  | .bcs _ => ⟨0xB0#8, .bcs, .relative, 2, false, true, .official⟩
  | .beq _ => ⟨0xF0#8, .beq, .relative, 2, false, true, .official⟩
  | .bmi _ => ⟨0x30#8, .bmi, .relative, 2, false, true, .official⟩
  | .bne _ => ⟨0xD0#8, .bne, .relative, 2, false, true, .official⟩
  | .bpl _ => ⟨0x10#8, .bpl, .relative, 2, false, true, .official⟩
  | .bvc _ => ⟨0x50#8, .bvc, .relative, 2, false, true, .official⟩
  | .bvs _ => ⟨0x70#8, .bvs, .relative, 2, false, true, .official⟩
  | .pha => ⟨0x48#8, .pha, .implied, 3, false, true, .official⟩
  | .php => ⟨0x08#8, .php, .implied, 3, false, true, .official⟩
  | .pla => ⟨0x68#8, .pla, .implied, 4, false, true, .official⟩
  | .plp => ⟨0x28#8, .plp, .implied, 4, false, true, .official⟩
  | .clc => ⟨0x18#8, .clc, .implied, 2, false, true, .official⟩
  | .cld => ⟨0xD8#8, .cld, .implied, 2, false, true, .official⟩
  | .cli => ⟨0x58#8, .cli, .implied, 2, false, true, .official⟩
  | .clv => ⟨0xB8#8, .clv, .implied, 2, false, true, .official⟩
  | .sec => ⟨0x38#8, .sec, .implied, 2, false, true, .official⟩
  | .sed => ⟨0xF8#8, .sed, .implied, 2, false, true, .official⟩
  | .sei => ⟨0x78#8, .sei, .implied, 2, false, true, .official⟩
  | .nop => ⟨0xEA#8, .nop, .implied, 2, false, true, .official⟩
  | .nopZp04 _ => ⟨0x04#8, .nop, .zeroPage, 3, false, false, .normative⟩
  | .nopAbs _ => ⟨0x0C#8, .nop, .absolute, 4, false, false, .normative⟩
  | .nopZpx14 _ => ⟨0x14#8, .nop, .zeroPageX, 4, false, false, .normative⟩
  | .nop1A => ⟨0x1A#8, .nop, .implied, 2, false, false, .normative⟩
  | .nopAbx1C _ => ⟨0x1C#8, .nop, .absoluteX, 4, true, false, .normative⟩
  | .nopZpx34 _ => ⟨0x34#8, .nop, .zeroPageX, 4, false, false, .normative⟩
  | .nop3A => ⟨0x3A#8, .nop, .implied, 2, false, false, .normative⟩
  | .nopAbx3C _ => ⟨0x3C#8, .nop, .absoluteX, 4, true, false, .normative⟩
  | .nopZp44 _ => ⟨0x44#8, .nop, .zeroPage, 3, false, false, .normative⟩
  | .nopZpx54 _ => ⟨0x54#8, .nop, .zeroPageX, 4, false, false, .normative⟩
  | .nop5A => ⟨0x5A#8, .nop, .implied, 2, false, false, .normative⟩
  | .nopAbx5C _ => ⟨0x5C#8, .nop, .absoluteX, 4, true, false, .normative⟩
  | .nopZp64 _ => ⟨0x64#8, .nop, .zeroPage, 3, false, false, .normative⟩
  | .nopZpx74 _ => ⟨0x74#8, .nop, .zeroPageX, 4, false, false, .normative⟩
  | .nop7A => ⟨0x7A#8, .nop, .implied, 2, false, false, .normative⟩
  | .nopAbx7C _ => ⟨0x7C#8, .nop, .absoluteX, 4, true, false, .normative⟩
  | .nopImm80 _ => ⟨0x80#8, .nop, .immediate, 2, false, false, .normative⟩
  | .nopImm82 _ => ⟨0x82#8, .nop, .immediate, 2, false, false, .normative⟩
  | .nopImm89 _ => ⟨0x89#8, .nop, .immediate, 2, false, false, .normative⟩
  | .nopImmC2 _ => ⟨0xC2#8, .nop, .immediate, 2, false, false, .normative⟩
  | .nopZpxD4 _ => ⟨0xD4#8, .nop, .zeroPageX, 4, false, false, .normative⟩
  | .nopDA => ⟨0xDA#8, .nop, .implied, 2, false, false, .normative⟩
  | .nopAbxDC _ => ⟨0xDC#8, .nop, .absoluteX, 4, true, false, .normative⟩
  | .nopImmE2 _ => ⟨0xE2#8, .nop, .immediate, 2, false, false, .normative⟩
  | .nopZpxF4 _ => ⟨0xF4#8, .nop, .zeroPageX, 4, false, false, .normative⟩
  | .nopFA => ⟨0xFA#8, .nop, .implied, 2, false, false, .normative⟩
  | .nopAbxFC _ => ⟨0xFC#8, .nop, .absoluteX, 4, true, false, .normative⟩
  | .laxIzx _ => ⟨0xA3#8, .lax, .indexedIndirect, 6, false, false, .normative⟩
  | .laxZp _ => ⟨0xA7#8, .lax, .zeroPage, 3, false, false, .normative⟩
  | .laxAbs _ => ⟨0xAF#8, .lax, .absolute, 4, false, false, .normative⟩
  | .laxIzy _ => ⟨0xB3#8, .lax, .indirectIndexed, 5, true, false, .normative⟩
  | .laxZpy _ => ⟨0xB7#8, .lax, .zeroPageY, 4, false, false, .normative⟩
  | .laxAby _ => ⟨0xBF#8, .lax, .absoluteY, 4, true, false, .normative⟩
  | .saxIzx _ => ⟨0x83#8, .sax, .indexedIndirect, 6, false, false, .normative⟩
  | .saxZp _ => ⟨0x87#8, .sax, .zeroPage, 3, false, false, .normative⟩
  | .saxAbs _ => ⟨0x8F#8, .sax, .absolute, 4, false, false, .normative⟩
  | .saxZpy _ => ⟨0x97#8, .sax, .zeroPageY, 4, false, false, .normative⟩
  | .dcpIzx _ => ⟨0xC3#8, .dcp, .indexedIndirect, 8, false, false, .normative⟩
  | .dcpZp _ => ⟨0xC7#8, .dcp, .zeroPage, 5, false, false, .normative⟩
  | .dcpAbs _ => ⟨0xCF#8, .dcp, .absolute, 6, false, false, .normative⟩
  | .dcpIzy _ => ⟨0xD3#8, .dcp, .indirectIndexed, 8, false, false, .normative⟩
  | .dcpZpx _ => ⟨0xD7#8, .dcp, .zeroPageX, 6, false, false, .normative⟩
  | .dcpAby _ => ⟨0xDB#8, .dcp, .absoluteY, 7, false, false, .normative⟩
  | .dcpAbx _ => ⟨0xDF#8, .dcp, .absoluteX, 7, false, false, .normative⟩
  | .isbIzx _ => ⟨0xE3#8, .isb, .indexedIndirect, 8, false, false, .normative⟩
  | .isbZp _ => ⟨0xE7#8, .isb, .zeroPage, 5, false, false, .normative⟩
  | .isbAbs _ => ⟨0xEF#8, .isb, .absolute, 6, false, false, .normative⟩
  | .isbIzy _ => ⟨0xF3#8, .isb, .indirectIndexed, 8, false, false, .normative⟩
  | .isbZpx _ => ⟨0xF7#8, .isb, .zeroPageX, 6, false, false, .normative⟩
  | .isbAby _ => ⟨0xFB#8, .isb, .absoluteY, 7, false, false, .normative⟩
  | .isbAbx _ => ⟨0xFF#8, .isb, .absoluteX, 7, false, false, .normative⟩
  | .sloIzx _ => ⟨0x03#8, .slo, .indexedIndirect, 8, false, false, .normative⟩
  | .sloZp _ => ⟨0x07#8, .slo, .zeroPage, 5, false, false, .normative⟩
  | .sloAbs _ => ⟨0x0F#8, .slo, .absolute, 6, false, false, .normative⟩
  | .sloIzy _ => ⟨0x13#8, .slo, .indirectIndexed, 8, false, false, .normative⟩
  | .sloZpx _ => ⟨0x17#8, .slo, .zeroPageX, 6, false, false, .normative⟩
  | .sloAby _ => ⟨0x1B#8, .slo, .absoluteY, 7, false, false, .normative⟩
  | .sloAbx _ => ⟨0x1F#8, .slo, .absoluteX, 7, false, false, .normative⟩
  | .rlaIzx _ => ⟨0x23#8, .rla, .indexedIndirect, 8, false, false, .normative⟩
  | .rlaZp _ => ⟨0x27#8, .rla, .zeroPage, 5, false, false, .normative⟩
  | .rlaAbs _ => ⟨0x2F#8, .rla, .absolute, 6, false, false, .normative⟩
  | .rlaIzy _ => ⟨0x33#8, .rla, .indirectIndexed, 8, false, false, .normative⟩
  | .rlaZpx _ => ⟨0x37#8, .rla, .zeroPageX, 6, false, false, .normative⟩
  | .rlaAby _ => ⟨0x3B#8, .rla, .absoluteY, 7, false, false, .normative⟩
  | .rlaAbx _ => ⟨0x3F#8, .rla, .absoluteX, 7, false, false, .normative⟩
  | .sreIzx _ => ⟨0x43#8, .sre, .indexedIndirect, 8, false, false, .normative⟩
  | .sreZp _ => ⟨0x47#8, .sre, .zeroPage, 5, false, false, .normative⟩
  | .sreAbs _ => ⟨0x4F#8, .sre, .absolute, 6, false, false, .normative⟩
  | .sreIzy _ => ⟨0x53#8, .sre, .indirectIndexed, 8, false, false, .normative⟩
  | .sreZpx _ => ⟨0x57#8, .sre, .zeroPageX, 6, false, false, .normative⟩
  | .sreAby _ => ⟨0x5B#8, .sre, .absoluteY, 7, false, false, .normative⟩
  | .sreAbx _ => ⟨0x5F#8, .sre, .absoluteX, 7, false, false, .normative⟩
  | .rraIzx _ => ⟨0x63#8, .rra, .indexedIndirect, 8, false, false, .normative⟩
  | .rraZp _ => ⟨0x67#8, .rra, .zeroPage, 5, false, false, .normative⟩
  | .rraAbs _ => ⟨0x6F#8, .rra, .absolute, 6, false, false, .normative⟩
  | .rraIzy _ => ⟨0x73#8, .rra, .indirectIndexed, 8, false, false, .normative⟩
  | .rraZpx _ => ⟨0x77#8, .rra, .zeroPageX, 6, false, false, .normative⟩
  | .rraAby _ => ⟨0x7B#8, .rra, .absoluteY, 7, false, false, .normative⟩
  | .rraAbx _ => ⟨0x7F#8, .rra, .absoluteX, 7, false, false, .normative⟩
  | .ancImm0B _ => ⟨0x0B#8, .anc, .immediate, 2, false, false, .gated⟩
  | .ancImm2B _ => ⟨0x2B#8, .anc, .immediate, 2, false, false, .gated⟩
  | .alrImm _ => ⟨0x4B#8, .alr, .immediate, 2, false, false, .gated⟩
  | .arrImm _ => ⟨0x6B#8, .arr, .immediate, 2, false, false, .gated⟩
  | .axsImm _ => ⟨0xCB#8, .axs, .immediate, 2, false, false, .gated⟩
  | .lasAby _ => ⟨0xBB#8, .las, .absoluteY, 4, true, false, .gated⟩
  | .xaaImm _ => ⟨0x8B#8, .xaa, .immediate, 2, false, false, .gated⟩
  | .lxaImm _ => ⟨0xAB#8, .lxa, .immediate, 2, false, false, .gated⟩
  | .ahxIzy _ => ⟨0x93#8, .ahx, .indirectIndexed, 6, false, false, .gated⟩
  | .ahxAby _ => ⟨0x9F#8, .ahx, .absoluteY, 5, false, false, .gated⟩
  | .shyAbx _ => ⟨0x9C#8, .shy, .absoluteX, 5, false, false, .gated⟩
  | .shxAby _ => ⟨0x9E#8, .shx, .absoluteY, 5, false, false, .gated⟩
  | .tasAby _ => ⟨0x9B#8, .tas, .absoluteY, 5, false, false, .gated⟩
  | .kil02 => ⟨0x02#8, .kil, .none, 0, false, false, .halt⟩
  | .kil12 => ⟨0x12#8, .kil, .none, 0, false, false, .halt⟩
  | .kil22 => ⟨0x22#8, .kil, .none, 0, false, false, .halt⟩
  | .kil32 => ⟨0x32#8, .kil, .none, 0, false, false, .halt⟩
  | .kil42 => ⟨0x42#8, .kil, .none, 0, false, false, .halt⟩
  | .kil52 => ⟨0x52#8, .kil, .none, 0, false, false, .halt⟩
  | .kil62 => ⟨0x62#8, .kil, .none, 0, false, false, .halt⟩
  | .kil72 => ⟨0x72#8, .kil, .none, 0, false, false, .halt⟩
  | .kil92 => ⟨0x92#8, .kil, .none, 0, false, false, .halt⟩
  | .kilB2 => ⟨0xB2#8, .kil, .none, 0, false, false, .halt⟩
  | .kilD2 => ⟨0xD2#8, .kil, .none, 0, false, false, .halt⟩
  | .kilF2 => ⟨0xF2#8, .kil, .none, 0, false, false, .halt⟩

/-- The operand field of an instruction, tagged with its addressing mode (R101). -/
def Instr.operand : Instr → Operand
  | .ldaIzx zp => .indexedIndirect zp
  | .ldaZp zp => .zeroPage zp
  | .ldaImm imm => .immediate imm
  | .ldaAbs addr => .absolute addr
  | .ldaIzy zp => .indirectIndexed zp
  | .ldaZpx zp => .zeroPageX zp
  | .ldaAby addr => .absoluteY addr
  | .ldaAbx addr => .absoluteX addr
  | .ldxImm imm => .immediate imm
  | .ldxZp zp => .zeroPage zp
  | .ldxAbs addr => .absolute addr
  | .ldxZpy zp => .zeroPageY zp
  | .ldxAby addr => .absoluteY addr
  | .ldyImm imm => .immediate imm
  | .ldyZp zp => .zeroPage zp
  | .ldyAbs addr => .absolute addr
  | .ldyZpx zp => .zeroPageX zp
  | .ldyAbx addr => .absoluteX addr
  | .staIzx zp => .indexedIndirect zp
  | .staZp zp => .zeroPage zp
  | .staAbs addr => .absolute addr
  | .staIzy zp => .indirectIndexed zp
  | .staZpx zp => .zeroPageX zp
  | .staAby addr => .absoluteY addr
  | .staAbx addr => .absoluteX addr
  | .stxZp zp => .zeroPage zp
  | .stxAbs addr => .absolute addr
  | .stxZpy zp => .zeroPageY zp
  | .styZp zp => .zeroPage zp
  | .styAbs addr => .absolute addr
  | .styZpx zp => .zeroPageX zp
  | .tax => .implied
  | .tay => .implied
  | .tsx => .implied
  | .txa => .implied
  | .txs => .implied
  | .tya => .implied
  | .adcIzx zp => .indexedIndirect zp
  | .adcZp zp => .zeroPage zp
  | .adcImm imm => .immediate imm
  | .adcAbs addr => .absolute addr
  | .adcIzy zp => .indirectIndexed zp
  | .adcZpx zp => .zeroPageX zp
  | .adcAby addr => .absoluteY addr
  | .adcAbx addr => .absoluteX addr
  | .sbcImm imm => .immediate imm
  | .sbcIzx zp => .indexedIndirect zp
  | .sbcZp zp => .zeroPage zp
  | .sbcImmEB imm => .immediate imm
  | .sbcAbs addr => .absolute addr
  | .sbcIzy zp => .indirectIndexed zp
  | .sbcZpx zp => .zeroPageX zp
  | .sbcAby addr => .absoluteY addr
  | .sbcAbx addr => .absoluteX addr
  | .andIzx zp => .indexedIndirect zp
  | .andZp zp => .zeroPage zp
  | .andImm imm => .immediate imm
  | .andAbs addr => .absolute addr
  | .andIzy zp => .indirectIndexed zp
  | .andZpx zp => .zeroPageX zp
  | .andAby addr => .absoluteY addr
  | .andAbx addr => .absoluteX addr
  | .oraIzx zp => .indexedIndirect zp
  | .oraZp zp => .zeroPage zp
  | .oraImm imm => .immediate imm
  | .oraAbs addr => .absolute addr
  | .oraIzy zp => .indirectIndexed zp
  | .oraZpx zp => .zeroPageX zp
  | .oraAby addr => .absoluteY addr
  | .oraAbx addr => .absoluteX addr
  | .eorIzx zp => .indexedIndirect zp
  | .eorZp zp => .zeroPage zp
  | .eorImm imm => .immediate imm
  | .eorAbs addr => .absolute addr
  | .eorIzy zp => .indirectIndexed zp
  | .eorZpx zp => .zeroPageX zp
  | .eorAby addr => .absoluteY addr
  | .eorAbx addr => .absoluteX addr
  | .cmpIzx zp => .indexedIndirect zp
  | .cmpZp zp => .zeroPage zp
  | .cmpImm imm => .immediate imm
  | .cmpAbs addr => .absolute addr
  | .cmpIzy zp => .indirectIndexed zp
  | .cmpZpx zp => .zeroPageX zp
  | .cmpAby addr => .absoluteY addr
  | .cmpAbx addr => .absoluteX addr
  | .cpxImm imm => .immediate imm
  | .cpxZp zp => .zeroPage zp
  | .cpxAbs addr => .absolute addr
  | .cpyImm imm => .immediate imm
  | .cpyZp zp => .zeroPage zp
  | .cpyAbs addr => .absolute addr
  | .bitZp zp => .zeroPage zp
  | .bitAbs addr => .absolute addr
  | .incZp zp => .zeroPage zp
  | .incAbs addr => .absolute addr
  | .incZpx zp => .zeroPageX zp
  | .incAbx addr => .absoluteX addr
  | .decZp zp => .zeroPage zp
  | .decAbs addr => .absolute addr
  | .decZpx zp => .zeroPageX zp
  | .decAbx addr => .absoluteX addr
  | .inx => .implied
  | .iny => .implied
  | .dex => .implied
  | .dey => .implied
  | .aslZp zp => .zeroPage zp
  | .aslAcc => .accumulator
  | .aslAbs addr => .absolute addr
  | .aslZpx zp => .zeroPageX zp
  | .aslAbx addr => .absoluteX addr
  | .lsrZp zp => .zeroPage zp
  | .lsrAcc => .accumulator
  | .lsrAbs addr => .absolute addr
  | .lsrZpx zp => .zeroPageX zp
  | .lsrAbx addr => .absoluteX addr
  | .rolZp zp => .zeroPage zp
  | .rolAcc => .accumulator
  | .rolAbs addr => .absolute addr
  | .rolZpx zp => .zeroPageX zp
  | .rolAbx addr => .absoluteX addr
  | .rorZp zp => .zeroPage zp
  | .rorAcc => .accumulator
  | .rorAbs addr => .absolute addr
  | .rorZpx zp => .zeroPageX zp
  | .rorAbx addr => .absoluteX addr
  | .jmpAbs addr => .absolute addr
  | .jmpInd ptr => .indirect ptr
  | .jsrAbs addr => .absolute addr
  | .rts => .implied
  | .rti => .implied
  | .brk => .implied
  | .bcc off => .relative off
  | .bcs off => .relative off
  | .beq off => .relative off
  | .bmi off => .relative off
  | .bne off => .relative off
  | .bpl off => .relative off
  | .bvc off => .relative off
  | .bvs off => .relative off
  | .pha => .implied
  | .php => .implied
  | .pla => .implied
  | .plp => .implied
  | .clc => .implied
  | .cld => .implied
  | .cli => .implied
  | .clv => .implied
  | .sec => .implied
  | .sed => .implied
  | .sei => .implied
  | .nop => .implied
  | .nopZp04 zp => .zeroPage zp
  | .nopAbs addr => .absolute addr
  | .nopZpx14 zp => .zeroPageX zp
  | .nop1A => .implied
  | .nopAbx1C addr => .absoluteX addr
  | .nopZpx34 zp => .zeroPageX zp
  | .nop3A => .implied
  | .nopAbx3C addr => .absoluteX addr
  | .nopZp44 zp => .zeroPage zp
  | .nopZpx54 zp => .zeroPageX zp
  | .nop5A => .implied
  | .nopAbx5C addr => .absoluteX addr
  | .nopZp64 zp => .zeroPage zp
  | .nopZpx74 zp => .zeroPageX zp
  | .nop7A => .implied
  | .nopAbx7C addr => .absoluteX addr
  | .nopImm80 imm => .immediate imm
  | .nopImm82 imm => .immediate imm
  | .nopImm89 imm => .immediate imm
  | .nopImmC2 imm => .immediate imm
  | .nopZpxD4 zp => .zeroPageX zp
  | .nopDA => .implied
  | .nopAbxDC addr => .absoluteX addr
  | .nopImmE2 imm => .immediate imm
  | .nopZpxF4 zp => .zeroPageX zp
  | .nopFA => .implied
  | .nopAbxFC addr => .absoluteX addr
  | .laxIzx zp => .indexedIndirect zp
  | .laxZp zp => .zeroPage zp
  | .laxAbs addr => .absolute addr
  | .laxIzy zp => .indirectIndexed zp
  | .laxZpy zp => .zeroPageY zp
  | .laxAby addr => .absoluteY addr
  | .saxIzx zp => .indexedIndirect zp
  | .saxZp zp => .zeroPage zp
  | .saxAbs addr => .absolute addr
  | .saxZpy zp => .zeroPageY zp
  | .dcpIzx zp => .indexedIndirect zp
  | .dcpZp zp => .zeroPage zp
  | .dcpAbs addr => .absolute addr
  | .dcpIzy zp => .indirectIndexed zp
  | .dcpZpx zp => .zeroPageX zp
  | .dcpAby addr => .absoluteY addr
  | .dcpAbx addr => .absoluteX addr
  | .isbIzx zp => .indexedIndirect zp
  | .isbZp zp => .zeroPage zp
  | .isbAbs addr => .absolute addr
  | .isbIzy zp => .indirectIndexed zp
  | .isbZpx zp => .zeroPageX zp
  | .isbAby addr => .absoluteY addr
  | .isbAbx addr => .absoluteX addr
  | .sloIzx zp => .indexedIndirect zp
  | .sloZp zp => .zeroPage zp
  | .sloAbs addr => .absolute addr
  | .sloIzy zp => .indirectIndexed zp
  | .sloZpx zp => .zeroPageX zp
  | .sloAby addr => .absoluteY addr
  | .sloAbx addr => .absoluteX addr
  | .rlaIzx zp => .indexedIndirect zp
  | .rlaZp zp => .zeroPage zp
  | .rlaAbs addr => .absolute addr
  | .rlaIzy zp => .indirectIndexed zp
  | .rlaZpx zp => .zeroPageX zp
  | .rlaAby addr => .absoluteY addr
  | .rlaAbx addr => .absoluteX addr
  | .sreIzx zp => .indexedIndirect zp
  | .sreZp zp => .zeroPage zp
  | .sreAbs addr => .absolute addr
  | .sreIzy zp => .indirectIndexed zp
  | .sreZpx zp => .zeroPageX zp
  | .sreAby addr => .absoluteY addr
  | .sreAbx addr => .absoluteX addr
  | .rraIzx zp => .indexedIndirect zp
  | .rraZp zp => .zeroPage zp
  | .rraAbs addr => .absolute addr
  | .rraIzy zp => .indirectIndexed zp
  | .rraZpx zp => .zeroPageX zp
  | .rraAby addr => .absoluteY addr
  | .rraAbx addr => .absoluteX addr
  | .ancImm0B imm => .immediate imm
  | .ancImm2B imm => .immediate imm
  | .alrImm imm => .immediate imm
  | .arrImm imm => .immediate imm
  | .axsImm imm => .immediate imm
  | .lasAby addr => .absoluteY addr
  | .xaaImm imm => .immediate imm
  | .lxaImm imm => .immediate imm
  | .ahxIzy zp => .indirectIndexed zp
  | .ahxAby addr => .absoluteY addr
  | .shyAbx addr => .absoluteX addr
  | .shxAby addr => .absoluteY addr
  | .tasAby addr => .absoluteY addr
  | .kil02 => .none
  | .kil12 => .none
  | .kil22 => .none
  | .kil32 => .none
  | .kil42 => .none
  | .kil52 => .none
  | .kil62 => .none
  | .kil72 => .none
  | .kil92 => .none
  | .kilB2 => .none
  | .kilD2 => .none
  | .kilF2 => .none

/-- The length of an instruction in bytes: the opcode and its operand bytes (R100). -/
def Instr.length (i : Instr) : Nat := 1 + i.row.mode.operandBytes

/-- The addressing mode an operand field belongs to. -/
def Operand.mode : Operand → Mode
  | .none => .none
  | .implied => .implied
  | .accumulator => .accumulator
  | .immediate _ => .immediate
  | .zeroPage _ => .zeroPage
  | .zeroPageX _ => .zeroPageX
  | .zeroPageY _ => .zeroPageY
  | .relative _ => .relative
  | .absolute _ => .absolute
  | .absoluteX _ => .absoluteX
  | .absoluteY _ => .absoluteY
  | .indirect _ => .indirect
  | .indexedIndirect _ => .indexedIndirect
  | .indirectIndexed _ => .indirectIndexed

end Sys2Proof
end

