-- ==== Sys2Proof/WellFormed.lean ====
section
/-! DEFINITION. What is well formed: an instruction has a table row; a table row is consistent; a cartridge image is admitted.
Operand fields carry their widths in their types, so no operand can be out of range (30_encoding.md R108). -/

namespace Sys2Proof

/-- An instruction is well formed when the instruction table has a row for it: every one but the halt slots (R104, R293). -/
def Instr.wellFormed (i : Instr) : Bool := i.row.tier != .halt

/-- Only these modes can move an address across a page in a way a row may charge for (R157). -/
def Mode.mayTakePagePenalty : Mode → Bool
  | .absoluteX | .absoluteY | .indirectIndexed => true
  | .none | .implied | .accumulator | .immediate | .zeroPage | .zeroPageX | .zeroPageY | .relative | .absolute
  | .indirect | .indexedIndirect => false

/-- A row has a mode (R101). -/
def Row.hasMode (r : Row) : Bool := r.mode != .none

/-- A row costs at least two cycles (R471: the smallest cost is 2). -/
def Row.costsEnough (r : Row) : Bool := decide (2 ≤ r.baseCycles)

/-- A page penalty stands only where the mode can cross a page (R157). -/
def Row.penaltyFits (r : Row) : Bool := !r.pagePenalty || r.mode.mayTakePagePenalty

/-- The official bit and the tier agree (R104). -/
def Row.officialFits (r : Row) : Bool := r.official == (r.tier == .official)

/-- A row of the machine's table is well formed: a hand-edited table that is not fails loudly here (R133). -/
def Row.wellFormed (r : Row) : Bool := r.hasMode && r.costsEnough && r.penaltyFits && r.officialFits && r.tier != .halt

/-- A cartridge image is well formed when the machine admits it (R87). -/
def imageWellFormed (image : List Byte) : Bool := Machine.imageAdmitted image

end Sys2Proof
end

