-- ==== Sys2Proof/Decode.lean ====
section
/-! DEFINITION. The decoder, total on any bytes, and the encoder (30_encoding.md R100 to R108). -/

namespace Sys2Proof

/-- The word made of a high and a low byte, `hi:lo` (R8). -/
def Word.ofBytes (hi lo : Byte) : Word := hi ++ lo

/-- Bits 15:8 of a word. -/
def Word.hi (w : Word) : Byte := w.extractLsb' 8 8

/-- Bits 7:0 of a word. -/
def Word.lo (w : Word) : Byte := w.extractLsb' 0 8

/-- The operand bytes of an instruction at ascending addresses; a two-byte operand is low byte first (R81, R101). -/
def Operand.bytes : Operand → List Byte
  | .none | .implied | .accumulator => []
  | .immediate b | .zeroPage b | .zeroPageX b | .zeroPageY b | .relative b | .indexedIndirect b | .indirectIndexed b => [b]
  | .absolute w | .absoluteX w | .absoluteY w | .indirect w => [w.lo, w.hi]

/-- What an opcode byte selects: the instruction itself, or the instruction once its operand bytes are known (R100, R101). -/
inductive Shape where
  | alone (i : Instr)
  | withByte (f : Byte → Instr)
  | withWord (f : Word → Instr)

/-- Row 0x of the opcode matrix of R105, columns x0 to xF. -/
def matrix0 : List Shape :=
  [.alone .brk, .withByte .oraIzx, .alone .kil02, .withByte .sloIzx,
   .withByte .nopZp04, .withByte .oraZp, .withByte .aslZp, .withByte .sloZp,
   .alone .php, .withByte .oraImm, .alone .aslAcc, .withByte .ancImm0B,
   .withWord .nopAbs, .withWord .oraAbs, .withWord .aslAbs, .withWord .sloAbs]

/-- Row 1x of the opcode matrix of R105, columns x0 to xF. -/
def matrix1 : List Shape :=
  [.withByte .bpl, .withByte .oraIzy, .alone .kil12, .withByte .sloIzy,
   .withByte .nopZpx14, .withByte .oraZpx, .withByte .aslZpx, .withByte .sloZpx,
   .alone .clc, .withWord .oraAby, .alone .nop1A, .withWord .sloAby,
   .withWord .nopAbx1C, .withWord .oraAbx, .withWord .aslAbx, .withWord .sloAbx]

/-- Row 2x of the opcode matrix of R105, columns x0 to xF. -/
def matrix2 : List Shape :=
  [.withWord .jsrAbs, .withByte .andIzx, .alone .kil22, .withByte .rlaIzx,
   .withByte .bitZp, .withByte .andZp, .withByte .rolZp, .withByte .rlaZp,
   .alone .plp, .withByte .andImm, .alone .rolAcc, .withByte .ancImm2B,
   .withWord .bitAbs, .withWord .andAbs, .withWord .rolAbs, .withWord .rlaAbs]

/-- Row 3x of the opcode matrix of R105, columns x0 to xF. -/
def matrix3 : List Shape :=
  [.withByte .bmi, .withByte .andIzy, .alone .kil32, .withByte .rlaIzy,
   .withByte .nopZpx34, .withByte .andZpx, .withByte .rolZpx, .withByte .rlaZpx,
   .alone .sec, .withWord .andAby, .alone .nop3A, .withWord .rlaAby,
   .withWord .nopAbx3C, .withWord .andAbx, .withWord .rolAbx, .withWord .rlaAbx]

/-- Row 4x of the opcode matrix of R105, columns x0 to xF. -/
def matrix4 : List Shape :=
  [.alone .rti, .withByte .eorIzx, .alone .kil42, .withByte .sreIzx,
   .withByte .nopZp44, .withByte .eorZp, .withByte .lsrZp, .withByte .sreZp,
   .alone .pha, .withByte .eorImm, .alone .lsrAcc, .withByte .alrImm,
   .withWord .jmpAbs, .withWord .eorAbs, .withWord .lsrAbs, .withWord .sreAbs]

/-- Row 5x of the opcode matrix of R105, columns x0 to xF. -/
def matrix5 : List Shape :=
  [.withByte .bvc, .withByte .eorIzy, .alone .kil52, .withByte .sreIzy,
   .withByte .nopZpx54, .withByte .eorZpx, .withByte .lsrZpx, .withByte .sreZpx,
   .alone .cli, .withWord .eorAby, .alone .nop5A, .withWord .sreAby,
   .withWord .nopAbx5C, .withWord .eorAbx, .withWord .lsrAbx, .withWord .sreAbx]

/-- Row 6x of the opcode matrix of R105, columns x0 to xF. -/
def matrix6 : List Shape :=
  [.alone .rts, .withByte .adcIzx, .alone .kil62, .withByte .rraIzx,
   .withByte .nopZp64, .withByte .adcZp, .withByte .rorZp, .withByte .rraZp,
   .alone .pla, .withByte .adcImm, .alone .rorAcc, .withByte .arrImm,
   .withWord .jmpInd, .withWord .adcAbs, .withWord .rorAbs, .withWord .rraAbs]

/-- Row 7x of the opcode matrix of R105, columns x0 to xF. -/
def matrix7 : List Shape :=
  [.withByte .bvs, .withByte .adcIzy, .alone .kil72, .withByte .rraIzy,
   .withByte .nopZpx74, .withByte .adcZpx, .withByte .rorZpx, .withByte .rraZpx,
   .alone .sei, .withWord .adcAby, .alone .nop7A, .withWord .rraAby,
   .withWord .nopAbx7C, .withWord .adcAbx, .withWord .rorAbx, .withWord .rraAbx]

/-- Row 8x of the opcode matrix of R105, columns x0 to xF. -/
def matrix8 : List Shape :=
  [.withByte .nopImm80, .withByte .staIzx, .withByte .nopImm82, .withByte .saxIzx,
   .withByte .styZp, .withByte .staZp, .withByte .stxZp, .withByte .saxZp,
   .alone .dey, .withByte .nopImm89, .alone .txa, .withByte .xaaImm,
   .withWord .styAbs, .withWord .staAbs, .withWord .stxAbs, .withWord .saxAbs]

/-- Row 9x of the opcode matrix of R105, columns x0 to xF. -/
def matrix9 : List Shape :=
  [.withByte .bcc, .withByte .staIzy, .alone .kil92, .withByte .ahxIzy,
   .withByte .styZpx, .withByte .staZpx, .withByte .stxZpy, .withByte .saxZpy,
   .alone .tya, .withWord .staAby, .alone .txs, .withWord .tasAby,
   .withWord .shyAbx, .withWord .staAbx, .withWord .shxAby, .withWord .ahxAby]

/-- Row Ax of the opcode matrix of R105, columns x0 to xF. -/
def matrixA : List Shape :=
  [.withByte .ldyImm, .withByte .ldaIzx, .withByte .ldxImm, .withByte .laxIzx,
   .withByte .ldyZp, .withByte .ldaZp, .withByte .ldxZp, .withByte .laxZp,
   .alone .tay, .withByte .ldaImm, .alone .tax, .withByte .lxaImm,
   .withWord .ldyAbs, .withWord .ldaAbs, .withWord .ldxAbs, .withWord .laxAbs]

/-- Row Bx of the opcode matrix of R105, columns x0 to xF. -/
def matrixB : List Shape :=
  [.withByte .bcs, .withByte .ldaIzy, .alone .kilB2, .withByte .laxIzy,
   .withByte .ldyZpx, .withByte .ldaZpx, .withByte .ldxZpy, .withByte .laxZpy,
   .alone .clv, .withWord .ldaAby, .alone .tsx, .withWord .lasAby,
   .withWord .ldyAbx, .withWord .ldaAbx, .withWord .ldxAby, .withWord .laxAby]

/-- Row Cx of the opcode matrix of R105, columns x0 to xF. -/
def matrixC : List Shape :=
  [.withByte .cpyImm, .withByte .cmpIzx, .withByte .nopImmC2, .withByte .dcpIzx,
   .withByte .cpyZp, .withByte .cmpZp, .withByte .decZp, .withByte .dcpZp,
   .alone .iny, .withByte .cmpImm, .alone .dex, .withByte .axsImm,
   .withWord .cpyAbs, .withWord .cmpAbs, .withWord .decAbs, .withWord .dcpAbs]

/-- Row Dx of the opcode matrix of R105, columns x0 to xF. -/
def matrixD : List Shape :=
  [.withByte .bne, .withByte .cmpIzy, .alone .kilD2, .withByte .dcpIzy,
   .withByte .nopZpxD4, .withByte .cmpZpx, .withByte .decZpx, .withByte .dcpZpx,
   .alone .cld, .withWord .cmpAby, .alone .nopDA, .withWord .dcpAby,
   .withWord .nopAbxDC, .withWord .cmpAbx, .withWord .decAbx, .withWord .dcpAbx]

/-- Row Ex of the opcode matrix of R105, columns x0 to xF. -/
def matrixE : List Shape :=
  [.withByte .cpxImm, .withByte .sbcIzx, .withByte .nopImmE2, .withByte .isbIzx,
   .withByte .cpxZp, .withByte .sbcZp, .withByte .incZp, .withByte .isbZp,
   .alone .inx, .withByte .sbcImm, .alone .nop, .withByte .sbcImmEB,
   .withWord .cpxAbs, .withWord .sbcAbs, .withWord .incAbs, .withWord .isbAbs]

/-- Row Fx of the opcode matrix of R105, columns x0 to xF. -/
def matrixF : List Shape :=
  [.withByte .beq, .withByte .sbcIzy, .alone .kilF2, .withByte .isbIzy,
   .withByte .nopZpxF4, .withByte .sbcZpx, .withByte .incZpx, .withByte .isbZpx,
   .alone .sed, .withWord .sbcAby, .alone .nopFA, .withWord .isbAby,
   .withWord .nopAbxFC, .withWord .sbcAbx, .withWord .incAbx, .withWord .isbAbx]

/-- The opcode matrix of R105: sixteen rows of sixteen. -/
def matrix : List (List Shape) :=
  [matrix0, matrix1, matrix2, matrix3, matrix4, matrix5, matrix6, matrix7] ++
  [matrix8, matrix9, matrixA, matrixB, matrixC, matrixD, matrixE, matrixF]

/-- The cell of the matrix that an opcode byte names: row = high nibble, column = low nibble (R105). The fallback of the two list
reads is never used: there are sixteen rows of sixteen cells (Laws/Encoding.lean, `matrix_is_total`). -/
def shapeOf (opcode : Byte) : Shape :=
  ((matrix.getD (opcode.toNat / 16) []).getD (opcode.toNat % 16) (.alone .kil02))

/-- Why bytes do not decode. Every opcode byte is a cell of the matrix and operand bytes have no reserved values (R108), so only
missing bytes are rejected; whether a cell may EXECUTE (halt slots, gated opcodes) is the machine's question. -/
inductive DecodeError where
  /-- There is no opcode byte. Safe: nothing runs. -/
  | noOpcode
  /-- The opcode's operand bytes are not all there. Safe: nothing runs. -/
  | operandMissing (opcode : Byte)
  deriving DecidableEq, Repr

/-- The instruction at the start of a list of bytes, and the bytes after it (R100, R103). -/
def decode : List Byte → Except DecodeError (Instr × List Byte)
  | [] => .error .noOpcode
  | opcode :: rest =>
    match shapeOf opcode, rest with
    | .alone i, _ => .ok (i, rest)
    | .withByte f, b :: rest => .ok (f b, rest)
    | .withWord f, lo :: hi :: rest => .ok (f (Word.ofBytes hi lo), rest)
    | .withByte _, [] | .withWord _, [] | .withWord _, [_] => .error (.operandMissing opcode)

/-- The bytes of an instruction at ascending addresses: the opcode of its table row, then its operand bytes (R100, R101). -/
def encode (i : Instr) : List Byte := i.row.opcode :: i.operand.bytes

/-- The longest instruction has three bytes (R100). -/
def maxLength : Nat := 3

/-- The three bytes, first at the lowest address, of a table word of `nbits` bits: bits 7:0 of `w` are the first byte, and every
bit above `nbits` is 0. -/
def tableBytes (nbits w : Nat) : List Byte :=
  let u := w % 2 ^ nbits
  [BitVec.ofNat 8 u, BitVec.ofNat 8 (u / 2 ^ 8), BitVec.ofNat 8 (u / 2 ^ 16)]

/-- The instruction the decoder reads from an instruction whose bits are `w`, numbered as spec/opcode_table.json numbers them. -/
def decodeTableWord (nbits w : Nat) : Option Instr :=
  match decode (tableBytes nbits w) with
  | .ok (i, _) => some i
  | .error _ => none

end Sys2Proof
end

