-- ==== Sys2Proof/Config.lean ====
section
/-! DEFINITION. The parameters of 00_scope.md R7: the three that the spec leaves OPEN are opaque constants (free values, log
entry 1), the others are fields of `Params` with the spec's recommended default (log entry 2). -/

namespace Sys2Proof

/-- `APU_FILLER` (R7, R66, D5): OPEN in the spec, so a value without a body: nothing can be proved of it. -/
opaque Config.apuFiller : Byte

/-- `MAGIC` (R7, R287, R288, D19): a draw, fixed per run, OPEN in the spec. -/
opaque Config.magic : Byte

/-- `PALETTE_RGB` (R7, R359, D32): the 64-entry colour table, OPEN in the spec. -/
opaque Config.paletteRgb : BitVec 6 → Rgb

/-- `ROM_WRITE_POLICY` (R7, R62, R414, D6). -/
inductive RomWritePolicy where
  | ignore
  | fault
  deriving DecidableEq, Repr

/-- The parameters of R7 that a run fixes. They are data of the state that no step changes (log entry 2). -/
structure Params where
  /-- `ROM_WRITE_POLICY`: what a write to program or character ROM does. -/
  romWritePolicy : RomWritePolicy
  /-- `NMI_STALL_ADD`: the stall cycles an NMI entry adds (R403). -/
  nmiStallAdd : Nat
  /-- `ADMIT_TIER3`: whether the thirteen gated opcodes execute (R281). -/
  admitTier3 : Bool
  /-- `PPU_WO_READ`: what a read of a write-only PPU port returns (R372). -/
  ppuWoRead : Byte
  /-- `PPU_GATE_ON_MASK`: whether the PPU pipelines run only while rendering is on (R303). -/
  ppuGateOnMask : Bool
  /-- `CTRL_AFTER_8`: the bit a controller reports after its eight buttons (R427). -/
  ctrlAfter8 : Bool
  /-- `PALETTE_POWERUP`: the palette RAM after power-up (R450). -/
  palettePowerUp : Vector Byte 32
  /-- `APU_FILLER`: what a read of the audio range returns (R61, R66). -/
  apuFiller : Byte
  /-- `MAGIC`: the analogue constant of `XAA` and `LXA` (R287, R288). -/
  magic : Byte
  deriving DecidableEq, Repr

/-- The parameters as 00_scope.md R7 recommends them; the two OPEN bytes are the opaque constants. -/
def Params.default : Params where
  romWritePolicy := .ignore
  nmiStallAdd := 6
  admitTier3 := false
  ppuWoRead := 0x00#8
  ppuGateOnMask := true
  ctrlAfter8 := true
  palettePowerUp := Vector.replicate 32 0x00#8
  apuFiller := Config.apuFiller
  magic := Config.magic

end Sys2Proof
end

