-- ==== Sys2Proof/Machine/State.lean ====
section
/-! DEFINITION. The state of the machine as plain data (10_state.md R20 to R56), the reasons a step can stop (60_exceptions.md
R411 to R415), and the state right after power-up and reset (70_reset_and_hazards.md R450 to R453). -/

namespace Sys2Proof.Machine

/-- A block of storage as a list of (index, byte) pairs in canonical form: indexes strictly rising, and no entry equal to what an
unlisted index reads as (log entry 4; `Space.fill` in Machine/Memory.lean says what that is). -/
abbrev Memory := List Host.Cell

/-- The CPU's registers and its hidden counters (R20 to R24, R27, R28). -/
structure Cpu where
  /-- The accumulator (R20). -/
  a : Byte
  /-- Index register X (R21). -/
  x : Byte
  /-- Index register Y (R21). -/
  y : Byte
  /-- The stack pointer; the slot is `0x0100 | SP` (R22). -/
  sp : Byte
  /-- The program counter (R23). -/
  pc : Word
  /-- The status byte (R24 to R26). -/
  p : Byte
  /-- The stall counter (R27). -/
  stall : Nat
  /-- The running CPU cycle counter (R28). -/
  cyc : Nat
  deriving DecidableEq, Repr

/-- The states of the sprite evaluator (R51, R343). -/
inductive EvalState where
  | copyY | copyTile | copyAttr | copyX | done
  deriving DecidableEq, Repr

/-- A registered sprite pixel: its resolved colour index and its priority bit (R52). -/
structure SpritePixel where
  colour : BitVec 4
  behind : Bool
  deriving DecidableEq, Repr

/-- The PPU: the register bytes and address latches (R39 to R45), the position (R47, R48), the background and sprite pipelines
(R49 to R52) and the memories behind the PPU (R34 to R37). -/
structure Ppu where
  /-- The control byte, port 0x2000 (R39). -/
  ctrl : Byte
  /-- The mask byte, port 0x2001 (R40). -/
  mask : Byte
  /-- The status byte, port 0x2002 (R41). -/
  status : Byte
  /-- The OAM address byte, port 0x2003 (R42). -/
  oamAddr : Byte
  /-- The current VRAM address (R43). -/
  v : VramAddr
  /-- The temporary VRAM address (R43). -/
  t : VramAddr
  /-- The write toggle: false means that the next write is the first (R44). -/
  w : Bool
  /-- The port 0x2007 read buffer (R45). -/
  readBuffer : Byte
  /-- The scanline, 0 to 261 (R47). -/
  scanline : Nat
  /-- The dot, 0 to 340 (R47). -/
  dot : Nat
  /-- The count of completed frames (R48). -/
  frame : Nat
  /-- The nametable latch (R49). -/
  ntByte : Byte
  /-- The palette number latch (R49). -/
  atBits : BitVec 2
  /-- The low pattern latch (R49). -/
  patLo : Byte
  /-- The high pattern latch (R49). -/
  patHi : Byte
  /-- Background shift register: pattern bit 0 (R50). -/
  bgPatLo : BitVec 16
  /-- Background shift register: pattern bit 1 (R50). -/
  bgPatHi : BitVec 16
  /-- Background shift register: palette bit 0 (R50). -/
  bgAtLo : BitVec 16
  /-- Background shift register: palette bit 1 (R50). -/
  bgAtHi : BitVec 16
  /-- The sprite evaluator's state (R51). -/
  evalState : EvalState
  /-- The OAM sprite being examined, 0 to 64 (R51). -/
  evalN : Nat
  /-- The next secondary OAM slot, 0 to 7 (R51). -/
  secSlot : Nat
  /-- The sprites copied on this scanline, 0 to 8 (R51). -/
  spriteCount : Nat
  /-- The sprite line buffer by X position; an unlisted position is empty (R52). -/
  spriteLine : List (Nat × Option SpritePixel)
  /-- Nametable RAM, 2048 bytes (R34). -/
  vram : Memory
  /-- Palette RAM, 32 bytes (R35). -/
  palette : Memory
  /-- Primary OAM, 256 bytes (R36). -/
  oam : Memory
  /-- Secondary OAM, 32 bytes (R37). -/
  secOam : Memory
  deriving DecidableEq, Repr

/-- A controller port: its strobe and shift index (R53), and the host's button levels in the current machine cycle (R428). -/
structure Controller where
  strobe : Bool
  shift : Nat
  buttons : Byte
  deriving DecidableEq, Repr

/-- The program page count of an admitted cartridge (R87). -/
inductive PrgPages where
  | one | two
  deriving DecidableEq, Repr

/-- The cartridge: program ROM of one or two 16 KiB pages and 8 KiB of character ROM (R38, R85 to R88). -/
structure Cartridge where
  pages : PrgPages
  prg : Memory
  chr : Memory
  deriving DecidableEq, Repr

/-- What the host gives the machine before one machine cycle: the button levels of both ports and whether a reset event falls
here (R428, R452; log entry 5). -/
structure HostInput where
  buttons1 : Byte
  buttons2 : Byte
  reset : Bool
  deriving DecidableEq, Repr

/-- The machine's output events (R331, R360): the pixel with its 6-bit colour index, and the end of a frame. -/
inductive Event where
  | pixel (x y : Nat) (colour : BitVec 6)
  | frame
  deriving DecidableEq, Repr

/-- The whole machine. -/
structure State where
  cpu : Cpu
  ppu : Ppu
  /-- The interrupt line: set by the PPU, cleared by the CPU (R29). -/
  nmiLine : Bool
  /-- Work RAM, 2048 bytes (R32). -/
  ram : Memory
  /-- Controller port 1, at 0x4016 (R53). -/
  pad1 : Controller
  /-- Controller port 2, at 0x4017 (R53). -/
  pad2 : Controller
  /-- The cartridge, which no step changes (R88). -/
  cart : Cartridge
  /-- The parameters of R7, which no step changes. -/
  params : Params
  /-- The host inputs of the coming machine cycles, next first (log entry 5). -/
  inputs : List HostInput
  /-- The output so far, newest event first (log entry 6). -/
  events : List Event
  deriving DecidableEq, Repr

/-- The fatal errors of 60_exceptions.md (R400): the run ends, nothing is delivered to software (R415). -/
inductive Fault where
  /-- Raised by the execution of a halt slot always, and of a gated opcode unless `ADMIT_TIER3` (R411). The opcode and the address
  it was fetched from. Safe: the spec ends the run too. -/
  | unknownOpcode (opcode : Byte) (address : Word)
  /-- Raised by the bus accesses for addresses wider than the bus only (R412); no instruction can raise it (R68, R79). Safe. -/
  | addressDecode (address : Nat)
  /-- Raised where a routine needs an address and its mode gives an immediate (R413); no row of the table pairs them. Safe. -/
  | unknownInstruction (mnemonic : Mnemonic) (mode : Mode)
  /-- Raised where a routine needs an operand and its mode gives none (R413); no row of the table pairs them. Safe. -/
  | missingOperand (opcode : Byte)
  /-- Raised by a write to program or character ROM under `ROM_WRITE_POLICY = fault` (R414). Safe: the spec ends the run too. -/
  | romWrite (address : Word)
  deriving DecidableEq, Repr

/-- Why the model gives no meaning. -/
inductive Refusal where
  /-- Raised by an arm of `exec` for an instruction without a meaning: none is left. Safe. -/
  | notModelled (mnemonic : String)
  /-- Raised by power-up for an image that R87 does not admit. Safe: the spec refuses it too. -/
  | imageNotAdmitted
  deriving DecidableEq, Repr

/-- No cartridge loaded: 32 KiB of program ROM and 8 KiB of character ROM that read as `Space.fill` (log entry 3). -/
def Cartridge.blank : Cartridge := { pages := .two, prg := [], chr := [] }

/-- A controller right after power-up, with no button held (R450; log entry 5 for the buttons). -/
def Controller.reset : Controller := { strobe := false, shift := 0, buttons := 0x00#8 }

/-- The CPU right after power-up and reset (R453). The PC is the reset vector of the blank cartridge (log entry 3). -/
def Cpu.reset : Cpu where
  a := 0x00#8
  x := 0x00#8
  y := 0x00#8
  sp := 0xFD#8
  pc := 0x0000#16
  p := 0x24#8
  stall := 7
  cyc := 0

/-- The PPU right after power-up and reset (R450, R452, R56). -/
def Ppu.reset : Ppu where
  ctrl := 0x00#8
  mask := 0x00#8
  status := 0x00#8
  oamAddr := 0x00#8
  v := 0x0000#15
  t := 0x0000#15
  w := false
  readBuffer := 0x00#8
  scanline := 0
  dot := 0
  frame := 0
  ntByte := 0x00#8
  atBits := 0#2
  patLo := 0x00#8
  patHi := 0x00#8
  bgPatLo := 0x0000#16
  bgPatHi := 0x0000#16
  bgAtLo := 0x0000#16
  bgAtHi := 0x0000#16
  evalState := .copyY
  evalN := 0
  secSlot := 0
  spriteCount := 0
  spriteLine := []
  vram := []
  palette := []
  oam := []
  secOam := []

/-- The machine right after reset: power-up, then the reset sequence that always follows it (R450 to R453, R56), with no cartridge
loaded and the default parameters. -/
def State.reset : State where
  cpu := Cpu.reset
  ppu := Ppu.reset
  nmiLine := false
  ram := []
  pad1 := Controller.reset
  pad2 := Controller.reset
  cart := Cartridge.blank
  params := Params.default
  inputs := []
  events := []

/-- The outcome of a step or of an instruction on this machine. -/
abbrev Result := Host.Outcome State Fault Refusal

end Sys2Proof.Machine
end

