-- ==== Sys2Proof/Machine/Memory.lean ====
section
/-! DEFINITION. Storage as sorted lists of (index, value) pairs: reading, writing, the canonical form, and the storage blocks of the
machine with what an unlisted index reads as (log entry 4). -/

namespace Sys2Proof.Machine

/-- The value at an index, or `d` where none is listed. -/
def Store.get {α : Type} (d : α) : List (Nat × α) → Nat → α
  | [], _ => d
  | (k, v) :: rest, i => if i = k then v else Store.get d rest i

/-- The list without any entry at an index. -/
def Store.erase {α : Type} : List (Nat × α) → Nat → List (Nat × α)
  | [], _ => []
  | (k, v) :: rest, i => if i = k then Store.erase rest i else (k, v) :: Store.erase rest i

/-- The list with an entry put before the first larger index. -/
def Store.insert {α : Type} : List (Nat × α) → Nat → α → List (Nat × α)
  | [], i, x => [(i, x)]
  | (k, v) :: rest, i, x => if i < k then (i, x) :: (k, v) :: rest else (k, v) :: Store.insert rest i x

/-- The list with the value at an index replaced; writing what an unlisted index reads as removes the entry. -/
def Store.set {α : Type} [DecidableEq α] (d : α) (m : List (Nat × α)) (i : Nat) (x : α) : List (Nat × α) :=
  if x = d then Store.erase m i else Store.insert (Store.erase m i) i x

/-- The canonical form: indexes strictly rising and below `size`, and no entry equal to what an unlisted index reads as. -/
abbrev Store.wf {α : Type} [DecidableEq α] (d : α) (size : Nat) (m : List (Nat × α)) : Prop :=
  m.Pairwise (fun e f => e.1 < f.1) ∧ ∀ e ∈ m, e.1 < size ∧ e.2 ≠ d

/-- The storage blocks of the machine (R32, R34 to R38). -/
inductive Space where
  | ram | vram | palette | oam | secOam | prg16 | prg32 | chr
  deriving DecidableEq, Repr

/-- The size of a block in bytes. -/
def Space.size : Space → Nat
  | .ram => 0x0800
  | .vram => 0x0800
  | .palette => 0x20
  | .oam => 0x100
  | .secOam => 0x20
  | .prg16 => 0x4000
  | .prg32 => 0x8000
  | .chr => 0x2000

/-- What an unlisted index of a block reads as: 0xFF in secondary OAM and 0x00 everywhere else, the values of the power-up sequence
(R450); for ROM the value of a byte the cartridge does not list (log entries 3 and 4). -/
def Space.fill : Space → Byte
  | .secOam => 0xFF#8
  | .ram | .vram | .palette | .oam | .prg16 | .prg32 | .chr => 0x00#8

/-- The block that holds the program ROM of a cartridge (R85). -/
def PrgPages.space : PrgPages → Space
  | .one => .prg16
  | .two => .prg32

/-- The length of a cartridge's program ROM in bytes (R61: `len(PRG)`). -/
def PrgPages.bytes (p : PrgPages) : Nat := p.space.size

/-- The byte of a block at an index. -/
def Memory.read (sp : Space) (m : Memory) (i : Nat) : Byte := Store.get sp.fill m i

/-- The block with one byte replaced. -/
def Memory.write (sp : Space) (m : Memory) (i : Nat) (b : Byte) : Memory := Store.set sp.fill m i b

/-- The canonical form of a block. -/
abbrev Memory.wf (sp : Space) (m : Memory) : Prop := Store.wf sp.fill sp.size m

/-- The block whose bytes from index `i` on are those of a list. -/
def Memory.ofBytes (sp : Space) : Nat → List Byte → Memory
  | _, [] => []
  | i, b :: rest => if b = sp.fill then Memory.ofBytes sp (i + 1) rest else (i, b) :: Memory.ofBytes sp (i + 1) rest

/-- The sprite line buffer at an X position: empty where nothing is registered (R52). -/
def spriteLineAt (line : List (Nat × Option SpritePixel)) (x : Nat) : Option SpritePixel := Store.get none line x

/-- The canonical form of the sprite line buffer: 256 positions (R52). -/
abbrev spriteLineWf (line : List (Nat × Option SpritePixel)) : Prop := Store.wf none 256 line

end Sys2Proof.Machine
end

