-- ==== Sys2Proof/Machine/Bits.lean ====
section
/-! DEFINITION. Bit-field and extension helpers (00_scope.md R8, R9). -/

namespace Sys2Proof.Machine

/-- `sext_8(b)` as a 16-bit displacement (R9, R103). -/
def sext8 (b : Byte) : Word := b.signExtend 16

/-- A byte as a 16-bit number (R9: bytes are zero-extended in 16-bit arithmetic). -/
def zext16 (b : Byte) : Word := b.zeroExtend 16

/-- Bit `i` of a byte as a Boolean (R8). -/
def bit (b : Byte) (i : Nat) : Bool := b.getLsbD i

/-- A Boolean used as a byte, 0 or 1 (R8). -/
def boolByte (b : Bool) : Byte := if b then 0x01#8 else 0x00#8

/-- The 16-bit address that an integer forms: every rule that forms an address reduces it mod 65536 first (R68). -/
def toAddress (i : Int) : Word := BitVec.ofInt 16 i

end Sys2Proof.Machine
end

