-- ==== Sys2Proof/Machine/Flags.lean ====
section
/-! DEFINITION. The status byte's flags and every flag computation (10_state.md R24 to R26, 40_cpu_step_and_addressing.md R165,
R166, 42_arithmetic_logic.md R190, R197). -/

namespace Sys2Proof.Machine

/-- The flags of `P`, bit 0 upward (R25). -/
inductive Flag where
  | c | z | i | d | b | u | v | n
  deriving DecidableEq, Repr

/-- The bit of `P` that a flag is (R9, R25). -/
def Flag.index : Flag → Nat
  | .c => 0
  | .z => 1
  | .i => 2
  | .d => 3
  | .b => 4
  | .u => 5
  | .v => 6
  | .n => 7

/-- `get_flag` (R166). -/
def getFlag (p : Byte) (f : Flag) : Bool := p.getLsbD f.index

/-- `set_flag` (R166): every other bit is left unchanged. -/
def setFlag (p : Byte) (f : Flag) (on : Bool) : Byte :=
  if on then p ||| (1#8 <<< f.index) else p &&& ~~~(1#8 <<< f.index)

/-- `setZN` on a status byte (R165): Z is "result byte == 0", N is bit 7 of the result. -/
def flagsZN (p : Byte) (r : Byte) : Byte := setFlag (setFlag p .z (r == 0x00#8)) .n (bit r 7)

/-- The carry out of bit 6 of `a + m + c` (R190). -/
def carry6 (a m : Byte) (c : Bool) : Bool := decide (0x7F < a.toNat % 0x80 + m.toNat % 0x80 + c.toNat)

/-- The carry out of bit 7 of `a + m + c` (R190: "Carry for ADC = result > 255"). -/
def carry7 (a m : Byte) (c : Bool) : Bool := decide (0xFF < a.toNat + m.toNat + c.toNat)

/-- The result byte of `a + m + c` (R190). -/
def addResult (a m : Byte) (c : Bool) : Byte := BitVec.ofNat 8 (a.toNat + m.toNat + c.toNat)

/-- The status byte after `AddCore` (R190): C, then V as the exclusive or of the two carries, then Z and N. -/
def flagsAdd (p a m : Byte) : Byte :=
  let c := getFlag p .c
  flagsZN (setFlag (setFlag p .c (carry7 a m c)) .v (carry6 a m c ^^ carry7 a m c)) (addResult a m c)

/-- The status byte after `Compare(r, m)` (R197): C is the unsigned comparison, Z equality, N bit 7 of the difference. -/
def flagsCompare (p r m : Byte) : Byte :=
  setFlag (setFlag (setFlag p .c (decide (m ≤ r))) .z (r == m)) .n (bit (r - m) 7)

/-- The status byte after `BIT` (R201). -/
def flagsBit (p a m : Byte) : Byte :=
  setFlag (setFlag (setFlag p .z (a &&& m == 0x00#8)) .v (bit m 6)) .n (bit m 7)

/-- The status byte that `PHP` and `BRK` push: bits 5 and 4 set (R251, R234). -/
def pushedByInstruction (p : Byte) : Byte := p ||| 0x30#8

/-- The status byte that NMI entry pushes: bit 5 set, bit 4 clear (R402). -/
def pushedByNmi (p : Byte) : Byte := (p ||| 0x20#8) &&& 0xEF#8

/-- The status byte restored from a pulled byte: "PLP/RTI force bit 5 to 1 and bit 4 to 0 on restore" (R233, R253). -/
def restoredStatus (pulled : Byte) : Byte := (pulled ||| 0x20#8) &&& 0xEF#8

end Sys2Proof.Machine
end

