-- ==== Sys2Proof/Machine/Registers.lean ====
section
/-! DEFINITION. The named writes of the CPU's registers, flags and counters: the one home of every register write. -/

namespace Sys2Proof.Machine

/-- `A <- b`. -/
def State.setA (s : State) (b : Byte) : State := { s with cpu := { s.cpu with a := b } }

/-- `X <- b`. -/
def State.setX (s : State) (b : Byte) : State := { s with cpu := { s.cpu with x := b } }

/-- `Y <- b`. -/
def State.setY (s : State) (b : Byte) : State := { s with cpu := { s.cpu with y := b } }

/-- `SP <- b`. -/
def State.setSp (s : State) (b : Byte) : State := { s with cpu := { s.cpu with sp := b } }

/-- `P <- b`. -/
def State.setP (s : State) (b : Byte) : State := { s with cpu := { s.cpu with p := b } }

/-- `PC <- w`. -/
def State.setPc (s : State) (w : Word) : State := { s with cpu := { s.cpu with pc := w } }

/-- `stall <- stall + n` (R156, R402, R421). -/
def State.addStall (s : State) (n : Nat) : State := { s with cpu := { s.cpu with stall := s.cpu.stall + n } }

/-- The state with the PPU replaced. -/
def State.setPpu (s : State) (q : Ppu) : State := { s with ppu := q }

/-- A flag of `P`. -/
def State.flag (s : State) (f : Flag) : Bool := getFlag s.cpu.p f

/-- `P.f <- on` (R166). -/
def State.setFlag (s : State) (f : Flag) (on : Bool) : State := s.setP (Machine.setFlag s.cpu.p f on)

/-- `setZN(r)` (R165). -/
def State.setZN (s : State) (r : Byte) : State := s.setP (flagsZN s.cpu.p r)

/-- `AddCore(m)` (R190): the old A and the old carry are read before anything is written. -/
def State.addCore (s : State) (m : Byte) : State :=
  (s.setP (flagsAdd s.cpu.p s.cpu.a m)).setA (addResult s.cpu.a m (s.flag .c))

/-- `Compare(r, m)` (R197): no register is written. -/
def State.compare (s : State) (r m : Byte) : State := s.setP (flagsCompare s.cpu.p r m)

end Sys2Proof.Machine
end

