-- ==== Sys2Proof/Machine/PpuBus.lean ====
section
/-! DEFINITION. The PPU bus (20_memory.md R75 to R79) and the cartridge's two ROMs (R61, R65, R88). -/

namespace Sys2Proof.Machine

/-- A byte of program ROM: `PRG[i mod len(PRG)]` (R61, R65). -/
def Cartridge.prgByte (c : Cartridge) (i : Nat) : Byte := Memory.read c.pages.space c.prg (i % c.pages.bytes)

/-- A byte of character ROM (R75). -/
def Cartridge.chrByte (c : Cartridge) (i : Nat) : Byte := Memory.read .chr c.chr i

/-- What a PPU bus address selects. -/
inductive PpuTarget where
  | chr (i : Nat)
  | vram (i : Nat)
  | palette (i : Nat)
  deriving DecidableEq, Repr

/-- `NtIndex(a)`: the 2 KiB fold (R77). -/
def ntIndex (a : Nat) : Nat := a % 0x0800

/-- `PalIndex(a)`: 32 entries, four of them aliases (R78). -/
def palIndex (a : Nat) : Nat :=
  let i := a % 0x20
  if i = 0x10 ∨ i = 0x14 ∨ i = 0x18 ∨ i = 0x1C then i - 0x10 else i

/-- The PPU bus decoder, after the 14-bit reduction of the address (R75). -/
def ppuDecode (addr : Word) : PpuTarget :=
  let a := addr.toNat % 0x4000
  if a ≤ 0x1FFF then .chr a
  else if a ≤ 0x2FFF then .vram (ntIndex a)
  else if a ≤ 0x3EFF then .vram (ntIndex (a - 0x1000))
  else .palette (palIndex a)

/-- `PpuRead(addr)` (R75): no PPU bus read has a side effect. -/
def ppuRead (s : State) (addr : Word) : Byte :=
  match ppuDecode addr with
  | .chr i => s.cart.chrByte i
  | .vram i => Memory.read .vram s.ppu.vram i
  | .palette i => Memory.read .palette s.ppu.palette i

/-- `PpuWrite(addr, v)` (R76): a write to character ROM follows `ROM_WRITE_POLICY`. -/
def ppuWrite (s : State) (addr : Word) (b : Byte) : Except Fault State :=
  match ppuDecode addr with
  | .chr i =>
    match s.params.romWritePolicy with
    | .fault => .error (.romWrite (BitVec.ofNat 16 i))
    | .ignore => .ok s
  | .vram i => .ok (s.setPpu { s.ppu with vram := Memory.write .vram s.ppu.vram i b })
  | .palette i => .ok (s.setPpu { s.ppu with palette := Memory.write .palette s.ppu.palette i b })

/-- `PpuRead` for an address type wider than the bus: outside 14 bits the decoder error of R79, R412 (log entry 9). -/
def ppuReadWide (s : State) (addr : Nat) : Except Fault Byte :=
  if 0x3FFF < addr then .error (.addressDecode addr) else .ok (ppuRead s (BitVec.ofNat 16 addr))

end Sys2Proof.Machine
end

