-- ==== Sys2Proof/Machine/PpuPorts.lean ====
section
/-! DEFINITION. The eight PPU ports 0x2000 to 0x2007 (49_ppu_registers.md R370 to R390). -/

namespace Sys2Proof.Machine

/-- The eight ports (R370, R390). -/
inductive PpuPort where
  | control | mask | status | oamAddress | oamData | scroll | address | data
  deriving DecidableEq, Repr

/-- The port of an address in the window: `addr & 7` (R64, R370). -/
def ppuPortOf (a : Nat) : PpuPort :=
  match a % 8 with
  | 0 => .control
  | 1 => .mask
  | 2 => .status
  | 3 => .oamAddress
  | 4 => .oamData
  | 5 => .scroll
  | 6 => .address
  | _ => .data

/-- `IncV()` (R389): 1 or 32 by `ctrl` bit 2, within 15 bits. -/
def incV (q : Ppu) : Ppu := { q with v := q.v + (if bit q.ctrl 2 then 32#15 else 1#15) }

/-- The bus address of a port 0x2007 access: `v & 0x3FFF` (R387, R388). -/
def dataAddress (q : Ppu) : Word := q.v.zeroExtend 16 &&& 0x3FFF#16

/-- `StatusRead()` (R375): the value before the clearing; bit 7 and `w` are cleared by the read itself. -/
def statusRead (s : State) : Byte × State :=
  (s.ppu.status &&& 0xE0#8, s.setPpu { s.ppu with status := s.ppu.status &&& 0x7F#8, w := false })

/-- `DataRead()` (R388): buffered below the palette, direct in it. -/
def dataRead (s : State) : Byte × State :=
  let a := dataAddress s.ppu
  if a < 0x3F00#16 then
    (s.ppu.readBuffer, s.setPpu (incV { s.ppu with readBuffer := ppuRead s a }))
  else
    (ppuRead s a, s.setPpu (incV { s.ppu with readBuffer := ppuRead s (a - 0x1000#16) }))

/-- `PpuPortRead(p)` (R370): the write-only ports return `PPU_WO_READ` without a side effect (R372). -/
def ppuPortRead (p : PpuPort) (s : State) : Byte × State :=
  match p with
  | .status => statusRead s
  | .oamData => (Memory.read .oam s.ppu.oam s.ppu.oamAddr.toNat, s)
  | .data => dataRead s
  | .control | .mask | .oamAddress | .scroll | .address => (s.params.ppuWoRead, s)

/-- A write to 0x2000 (R371): all eight bits are stored and bits 1:0 go to `t[11:10]`. -/
def controlWrite (q : Ppu) (b : Byte) : Ppu :=
  { q with ctrl := b, t := (q.t &&& 0x73FF#15) ||| ((b.zeroExtend 15 &&& 0x03#15) <<< 10) }

/-- A write to 0x2004, `OamDataWrite` (R381). -/
def oamDataWrite (q : Ppu) (b : Byte) : Ppu :=
  { q with oam := Memory.write .oam q.oam q.oamAddr.toNat b, oamAddr := q.oamAddr + 1#8 }

/-- A write to 0x2005, by the write toggle (R383, R384). -/
def scrollWrite (q : Ppu) (b : Byte) : Ppu :=
  if q.w then
    { q with
      t := (q.t &&& 0x0C1F#15) ||| ((b.zeroExtend 15 &&& 0x07#15) <<< 12) ||| ((b.zeroExtend 15 &&& 0xF8#15) <<< 2)
      w := false }
  else
    { q with t := (q.t &&& 0x7FE0#15) ||| (b.zeroExtend 15 >>> 3), w := true }

/-- A write to 0x2006, by the write toggle (R385, R386). -/
def addressWrite (q : Ppu) (b : Byte) : Ppu :=
  if q.w then
    let t := (q.t &&& 0x7F00#15) ||| b.zeroExtend 15
    { q with t := t, v := t, w := false }
  else
    { q with t := (q.t &&& 0x00FF#15) ||| ((b.zeroExtend 15 &&& 0x3F#15) <<< 8), w := true }

/-- A write to 0x2007, `DataWrite` (R387). -/
def dataWrite (s : State) (b : Byte) : Except Fault State := do
  let s ← ppuWrite s (dataAddress s.ppu) b
  return s.setPpu (incV s.ppu)

/-- `PpuPortWrite(p, val)` (R370); a write to 0x2002 has no effect (R376). -/
def ppuPortWrite (p : PpuPort) (b : Byte) (s : State) : Except Fault State :=
  match p with
  | .control => .ok (s.setPpu (controlWrite s.ppu b))
  | .mask => .ok (s.setPpu { s.ppu with mask := b })
  | .status => .ok s
  | .oamAddress => .ok (s.setPpu { s.ppu with oamAddr := b })
  | .oamData => .ok (s.setPpu (oamDataWrite s.ppu b))
  | .scroll => .ok (s.setPpu (scrollWrite s.ppu b))
  | .address => .ok (s.setPpu (addressWrite s.ppu b))
  | .data => dataWrite s b

end Sys2Proof.Machine
end

