-- ==== Sys2Proof/Machine/Ops.lean ====
section
/-! DEFINITION. The CPU bus with its devices (20_memory.md R60 to R70), the controllers and the OAM DMA (60_exceptions.md R420 to
R428), the stack (40_cpu_step_and_addressing.md R160 to R164), and taking an interrupt with the return from it (R402, R233,
R234). -/

namespace Sys2Proof.Machine

/-- What a CPU bus address selects (R60). -/
inductive CpuTarget where
  | ram (i : Nat)
  | ppuPort (p : PpuPort)
  | oamDma
  | audio
  | pad1
  | pad2
  | expansion
  | prg (i : Nat)
  deriving DecidableEq, Repr

/-- The CPU bus decoder (R60): exhaustive over 16-bit addresses. -/
def cpuDecode (addr : Word) : CpuTarget :=
  let a := addr.toNat
  if a ≤ 0x1FFF then .ram (a % 0x0800)
  else if a ≤ 0x3FFF then .ppuPort (ppuPortOf a)
  else if a = 0x4014 then .oamDma
  else if a ≤ 0x4015 then .audio
  else if a = 0x4016 then .pad1
  else if a = 0x4017 then .pad2
  else if a ≤ 0x7FFF then .expansion
  else .prg (a - 0x8000)

/-- The value `CtrlRead(i)` returns (R427). -/
def Controller.read (after8 : Bool) (c : Controller) : Byte :=
  if c.strobe then boolByte (bit c.buttons 0)
  else if c.shift < 8 then boolByte (bit c.buttons c.shift)
  else boolByte after8

/-- What `CtrlRead(i)` leaves behind (R427): the shift index moves while the strobe is low and fewer than eight bits are out. -/
def Controller.afterRead (c : Controller) : Controller :=
  if c.strobe then c else if c.shift < 8 then { c with shift := c.shift + 1 } else c

/-- `CtrlWrite(i, val)` (R426): only bit 0 is used. -/
def Controller.write (c : Controller) (b : Byte) : Controller :=
  { c with strobe := bit b 0, shift := if bit b 0 then 0 else c.shift }

/-- `MemRead(addr, 1)` (R61), with the side effects of the device read. -/
def memRead (addr : Word) (s : State) : Byte × State :=
  match cpuDecode addr with
  | .ram i => (Memory.read .ram s.ram i, s)
  | .ppuPort p => ppuPortRead p s
  | .oamDma | .audio => (s.params.apuFiller, s)
  | .pad1 => (s.pad1.read s.params.ctrlAfter8, { s with pad1 := s.pad1.afterRead })
  | .pad2 => (s.pad2.read s.params.ctrlAfter8, { s with pad2 := s.pad2.afterRead })
  | .expansion => (0x00#8, s)
  | .prg i => (s.cart.prgByte i, s)

/-- One transfer of the OAM DMA: `oam[i] <- MemRead((page << 8) | i, 1)` (R421). -/
def oamDmaByte (page : Byte) (s : State) (i : Nat) : State :=
  let (b, s) := memRead (Word.ofBytes page (BitVec.ofNat 8 i)) s
  s.setPpu { s.ppu with oam := Memory.write .oam s.ppu.oam i b }

/-- `OamDma(page)` (R421): 256 bytes in ascending order, then 512 stall cycles. -/
def oamDma (page : Byte) (s : State) : State :=
  ((List.range 256).foldl (oamDmaByte page) s).addStall 512

/-- `MemWrite(addr, 1, v)` (R62), with the side effects of the device written. -/
def memWrite (addr : Word) (b : Byte) (s : State) : Except Fault State :=
  match cpuDecode addr with
  | .ram i => .ok { s with ram := Memory.write .ram s.ram i b }
  | .ppuPort p => ppuPortWrite p b s
  | .oamDma => .ok (oamDma b s)
  | .audio => .ok s
  | .pad1 => .ok { s with pad1 := s.pad1.write b }
  | .pad2 => .ok { s with pad2 := s.pad2.write b }
  | .expansion => .ok s
  | .prg _ =>
    match s.params.romWritePolicy with
    | .fault => .error (.romWrite addr)
    | .ignore => .ok s

/-- `MemRead` for an address type wider than the bus: outside 16 bits the decoder error of R68, R412 (log entry 9). -/
def memReadWide (addr : Nat) (s : State) : Except Fault (Byte × State) :=
  if 0xFFFF < addr then .error (.addressDecode addr) else .ok (memRead (BitVec.ofNat 16 addr) s)

/-- `MemWrite` for an address type wider than the bus (R68, R412; log entry 9). -/
def memWriteWide (addr : Nat) (b : Byte) (s : State) : Except Fault State :=
  if 0xFFFF < addr then .error (.addressDecode addr) else memWrite (BitVec.ofNat 16 addr) b s

/-- The address of the stack slot, `0x0100 | SP` (R22). -/
def stackSlot (sp : Byte) : Word := Word.ofBytes 0x01#8 sp

/-- `push8(v)` (R160): write the slot, then move the pointer down. -/
def push8 (b : Byte) (s : State) : Except Fault State := do
  let s ← memWrite (stackSlot s.cpu.sp) b s
  return s.setSp (s.cpu.sp - 1#8)

/-- `push16(w)` (R162): high byte, then low byte. -/
def push16 (w : Word) (s : State) : Except Fault State := do
  let s ← push8 w.hi s
  push8 w.lo s

/-- `pull8()` (R161): move the pointer up, then read the slot. -/
def pull8 (s : State) : Byte × State :=
  let s := s.setSp (s.cpu.sp + 1#8)
  memRead (stackSlot s.cpu.sp) s

/-- `pull16()` (R163): low byte, then high byte. -/
def pull16 (s : State) : Word × State :=
  let (lo, s) := pull8 s
  let (hi, s) := pull8 s
  (Word.ofBytes hi lo, s)

/-- `read16(a)` (R164). -/
def read16 (a : Word) (s : State) : Word × State :=
  let (lo, s) := memRead a s
  let (hi, s) := memRead (a + 1#16) s
  (Word.ofBytes hi lo, s)

/-- The three vectors (R67). -/
def nmiVector : Word := 0xFFFA#16

/-- The reset vector (R67). -/
def resetVector : Word := 0xFFFC#16

/-- The `BRK` vector (R67). -/
def brkVector : Word := 0xFFFE#16

/-- Taking an interrupt, as NMI entry (R402) and `BRK` (R234) share it: the return address is pushed high byte first, then the
status byte; I is set; the PC is read from the vector. -/
def takeInterrupt (returnTo : Word) (status : Byte) (vector : Word) (s : State) : Except Fault State := do
  let s ← push16 returnTo s
  let s ← push8 status s
  let s := s.setFlag .i true
  let (target, s) := read16 vector s
  return s.setPc target

/-- The return from an interrupt, `RTI` (R233): the status byte, bits 5 and 4 forced, then the return address. -/
def returnFromInterrupt (s : State) : State :=
  let (p, s) := pull8 s
  let s := s.setP (restoredStatus p)
  let (pc, s) := pull16 s
  s.setPc pc

/-- `NmiEntry()` (R402). -/
def nmiEntry (s : State) : Except Fault State := do
  let s := { s with nmiLine := false }
  let s ← takeInterrupt s.cpu.pc (pushedByNmi s.cpu.p) nmiVector s
  return s.addStall s.params.nmiStallAdd

end Sys2Proof.Machine
end

