-- ==== Sys2Proof/Machine/Operands.lean ====
section
/-! DEFINITION. The addressing-mode resolver (40_cpu_step_and_addressing.md R139 to R154) and the operand value (R153). -/

namespace Sys2Proof.Machine

/-- The resolved operand of an instruction (R30): a literal value or an address; absent for Implied and Accumulator. -/
inductive Resolved where
  | none
  | value (imm : Byte)
  | address (ea : Word)
  deriving DecidableEq, Repr

/-- The `Operands` record (R30): the fetched bytes, the resolved operand and the page-crossed flag. -/
structure Operands where
  bytes : List Byte
  operand : Resolved
  pageCrossed : Bool
  deriving DecidableEq, Repr

/-- Whether an address lies in another page than its reference address (R154). -/
def pageDiffers (ea base : Word) : Bool := ea.hi != base.hi

/-- The target of a relative branch: the address of the next instruction plus the signed offset (R146). -/
def relativeTarget (base : Word) (off : Byte) : Word := base + sext8 off

/-- The address of an indexed access (R148, R149, R152): a full 16-bit addition. -/
def indexed (base : Word) (index : Byte) : Word := base + zext16 index

/-- The address of the second byte of an Indirect pointer: it wraps inside the pointer's page (R150). -/
def pageWrapNext (ptr : Word) : Word := (ptr &&& 0xFF00#16) ||| ((ptr + 1#16) &&& 0x00FF#16)

/-- The word at a zero-page pointer: the second byte wraps inside page 0 (R151, R152). -/
def zeroPagePointer (z : Byte) (s : State) : Word × State :=
  let (lo, s) := memRead (zext16 z) s
  let (hi, s) := memRead (zext16 (z + 1#8)) s
  (Word.ofBytes hi lo, s)

/-- The word at an Indirect pointer, with the page-wrap bug (R150). -/
def indirectPointer (ptr : Word) (s : State) : Word × State :=
  let (lo, s) := memRead ptr s
  let (hi, s) := memRead (pageWrapNext ptr) s
  (Word.ofBytes hi lo, s)

/-- `Resolve(mode)` (R139 to R152), in a state whose PC already stands after the operand bytes: the fetched bytes are those of the
operand, and the pointer reads happen here, in rule order. -/
def resolve (o : Operand) (s : State) : Operands × State :=
  match o with
  | .none | .implied | .accumulator => (⟨o.bytes, .none, false⟩, s)
  | .immediate b => (⟨o.bytes, .value b, false⟩, s)
  | .zeroPage b => (⟨o.bytes, .address (zext16 b), false⟩, s)
  | .zeroPageX b => (⟨o.bytes, .address (zext16 (b + s.cpu.x)), false⟩, s)
  | .zeroPageY b => (⟨o.bytes, .address (zext16 (b + s.cpu.y)), false⟩, s)
  | .relative b =>
    let ea := relativeTarget s.cpu.pc b
    (⟨o.bytes, .address ea, pageDiffers ea s.cpu.pc⟩, s)
  | .absolute w => (⟨o.bytes, .address w, false⟩, s)
  | .absoluteX w =>
    let ea := indexed w s.cpu.x
    (⟨o.bytes, .address ea, pageDiffers ea w⟩, s)
  | .absoluteY w =>
    let ea := indexed w s.cpu.y
    (⟨o.bytes, .address ea, pageDiffers ea w⟩, s)
  | .indirect w =>
    let (ea, s) := indirectPointer w s
    (⟨o.bytes, .address ea, false⟩, s)
  | .indexedIndirect b =>
    let (ea, s) := zeroPagePointer (b + s.cpu.x) s
    (⟨o.bytes, .address ea, false⟩, s)
  | .indirectIndexed b =>
    let (base, s) := zeroPagePointer b s
    let ea := indexed base s.cpu.y
    (⟨o.bytes, .address ea, pageDiffers ea base⟩, s)

/-- `ops.ea`: the resolved address, or the fault of R133, R413 (log entry 10). -/
def effectiveAddress (row : Row) (ops : Operands) : Except Fault Word :=
  match ops.operand with
  | .address ea => .ok ea
  | .value _ => .error (.unknownInstruction row.mnemonic row.mode)
  | .none => .error (.missingOperand row.opcode)

/-- The operand value `M` (R153): the literal in Immediate mode, else one read at the resolved address. -/
def readOperand (row : Row) (ops : Operands) (s : State) : Except Fault (Byte × State) :=
  match ops.operand with
  | .value b => .ok (b, s)
  | .address ea => .ok (memRead ea s)
  | .none => .error (.missingOperand row.opcode)

/-- `imm` in the rules that take an Immediate only (R282 to R288), or the fault of R133, R413. -/
def immediateValue (row : Row) (ops : Operands) : Except Fault Byte :=
  match ops.operand with
  | .value b => .ok b
  | .address _ => .error (.unknownInstruction row.mnemonic row.mode)
  | .none => .error (.missingOperand row.opcode)

end Sys2Proof.Machine
end

