-- ==== Sys2Proof/Machine/Execute.lean ====
section
/-! DEFINITION. `ExecuteInstruction()` after the fetch (40_cpu_step_and_addressing.md R131): the tier check, the resolver, the
semantic routine and the cycle accounting (R156 to R158), and the shapes that the semantic routines share. -/

namespace Sys2Proof.Machine

/-- A semantic routine, `Execute(mnemonic, mode, ops)` (R131): it returns `execution_extra` (R158) and the state. -/
abbrev Routine := Row → Operands → State → Except Fault (Nat × State)

/-- Whether a row of the table executes (R131, R104): tiers 1 and 2 always, tier 3 under `ADMIT_TIER3`, halt slots never. -/
def rowExecutes (row : Row) (params : Params) : Bool :=
  match row.tier with
  | .official | .normative => true
  | .gated => params.admitTier3
  | .halt => false

/-- `addressing_extra` (R157). -/
def addressingExtra (row : Row) (ops : Operands) : Nat := if ops.pageCrossed && row.pagePenalty then 1 else 0

/-- `base_cycles + addressing_extra + execution_extra` (R156). -/
def cost (row : Row) (ops : Operands) (extra : Nat) : Nat := row.baseCycles + addressingExtra row ops + extra

/-- The PC after all the bytes of an instruction were fetched (R23, R131). -/
def nextPc (i : Instr) (s : State) : Word := s.cpu.pc + BitVec.ofNat 16 i.length

/-- An instruction of the table, in a state whose PC is the address of its opcode byte (R131; log entry 14): its bytes are passed, its
operand resolved, its routine run, and its cost less one added to the stall (R156). An instruction that does not execute raises
`Fault(UnknownOpcode, opcode, pc0)` (R411). -/
def execute (i : Instr) (routine : Routine) (s : State) : Result :=
  if rowExecutes i.row s.params then
    let (ops, s1) := resolve i.operand (s.setPc (nextPc i s))
    match routine i.row ops s1 with
    | .error f => .fault f
    | .ok (extra, s2) => .next (s2.addStall (cost i.row ops extra - 1))
  else .fault (.unknownOpcode i.row.opcode s.cpu.pc)

/-- The shape of an instruction that reads `M` and changes the state by it. -/
def reading (f : Byte → State → State) : Routine := fun row ops s => do
  let (m, s) ← readOperand row ops s
  return (0, f m s)

/-- The shape of an instruction that takes an immediate only (R282 to R288). -/
def immediateOnly (f : Byte → State → State) : Routine := fun row ops s => do
  let m ← immediateValue row ops
  return (0, f m s)

/-- The shape of a store: `ea` is not read first (R153). -/
def storing (value : State → Byte) : Routine := fun row ops s => do
  let ea ← effectiveAddress row ops
  let s ← memWrite ea (value s) s
  return (0, s)

/-- The shape of a read-modify-write instruction (R153, R155, R220): one read of `ea`, the result and the flags it defines from the
value read, one write of `ea`, and what follows from the result. -/
def modifying (f : Byte → State → Byte × State) (after : Byte → State → State) : Routine := fun row ops s => do
  let ea ← effectiveAddress row ops
  let (v, s) := memRead ea s
  let (r, s) := f v s
  let s ← memWrite ea r s
  return (0, after r s)

/-- The shape of a shift or rotate (R220): the accumulator in Accumulator mode, else the memory form. -/
def shifting (f : Byte → State → Byte × State) : Routine := fun row ops s =>
  match row.mode with
  | .accumulator =>
    let (r, s) := f s.cpu.a s
    .ok (0, (s.setA r).setZN r)
  | .none | .implied | .immediate | .zeroPage | .zeroPageX | .zeroPageY | .relative | .absolute | .absoluteX | .absoluteY
  | .indirect | .indexedIndirect | .indirectIndexed => modifying f (fun r s => s.setZN r) row ops s

/-- `P.C <- v[7]; r <- (v << 1) & 0xFF` (R221). -/
def shiftLeft (v : Byte) (s : State) : Byte × State := (v <<< 1, s.setFlag .c (bit v 7))

/-- `P.C <- v[0]; r <- v >> 1` (R222). -/
def shiftRight (v : Byte) (s : State) : Byte × State := (v >>> 1, s.setFlag .c (bit v 0))

/-- `c <- P.C; P.C <- v[7]; r <- ((v << 1) | c) & 0xFF` (R223). -/
def rotateLeft (v : Byte) (s : State) : Byte × State :=
  ((v <<< 1) ||| boolByte (s.flag .c), s.setFlag .c (bit v 7))

/-- `c <- P.C; P.C <- v[0]; r <- (v >> 1) | (c << 7)` (R224). -/
def rotateRight (v : Byte) (s : State) : Byte × State :=
  ((v >>> 1) ||| (boolByte (s.flag .c) <<< 7), s.setFlag .c (bit v 0))

/-- The shape of an instruction that works on registers and flags alone. -/
def registers (f : State → State) : Routine := fun _ _ s => .ok (0, f s)

/-- The shape of an instruction that pushes or takes an interrupt. -/
def pushing (f : State → Except Fault State) : Routine := fun _ _ s => do
  let s ← f s
  return (0, s)

/-- `Branch(cond)` (R235): one extra cycle when taken and one more when the target is in another page. -/
def branching (f : Flag) (wanted : Bool) : Routine := fun row ops s => do
  let ea ← effectiveAddress row ops
  if s.flag f = wanted then
    return (1 + (if ops.pageCrossed then 1 else 0), s.setPc ea)
  else
    return (0, s)

/-- The execution of a halt slot (R293): it has no table row, so `Fault(UnknownOpcode)` with the address of the opcode (R411). -/
def haltSlot (opcode : Byte) (s : State) : Result := .fault (.unknownOpcode opcode s.cpu.pc)

end Sys2Proof.Machine
end

