-- ==== Sys2Proof/Machine/Arithmetic.lean ====
section
/-! DEFINITION. Arithmetic, logic, compare, increment and decrement instructions (42_arithmetic_logic.md R190 to R208). -/

namespace Sys2Proof.Machine

/-- `AddCore(M)` (R191); the decimal flag has no effect (R192). -/
def adcRoutine : Routine := reading fun m s => s.addCore m

/-- 61, ADC IndexedIndirect (R191). -/
def execAdcIzx (zp : Byte) (s : State) : Result := execute (.adcIzx zp) adcRoutine s

/-- 65, ADC ZeroPage (R191). -/
def execAdcZp (zp : Byte) (s : State) : Result := execute (.adcZp zp) adcRoutine s

/-- 69, ADC Immediate (R191). -/
def execAdcImm (imm : Byte) (s : State) : Result := execute (.adcImm imm) adcRoutine s

/-- 6D, ADC Absolute (R191). -/
def execAdcAbs (addr : Word) (s : State) : Result := execute (.adcAbs addr) adcRoutine s

/-- 71, ADC IndirectIndexed (R191). -/
def execAdcIzy (zp : Byte) (s : State) : Result := execute (.adcIzy zp) adcRoutine s

/-- 75, ADC ZeroPageX (R191). -/
def execAdcZpx (zp : Byte) (s : State) : Result := execute (.adcZpx zp) adcRoutine s

/-- 79, ADC AbsoluteY (R191). -/
def execAdcAby (addr : Word) (s : State) : Result := execute (.adcAby addr) adcRoutine s

/-- 7D, ADC AbsoluteX (R191). -/
def execAdcAbx (addr : Word) (s : State) : Result := execute (.adcAbx addr) adcRoutine s

/-- `AddCore(M xor 0xFF)` (R193), also for the unofficial opcode EB (R274). -/
def sbcRoutine : Routine := reading fun m s => s.addCore (m ^^^ 0xFF#8)

/-- E9, SBC Immediate (R193). -/
def execSbcImm (imm : Byte) (s : State) : Result := execute (.sbcImm imm) sbcRoutine s

/-- E1, SBC IndexedIndirect (R193). -/
def execSbcIzx (zp : Byte) (s : State) : Result := execute (.sbcIzx zp) sbcRoutine s

/-- E5, SBC ZeroPage (R193). -/
def execSbcZp (zp : Byte) (s : State) : Result := execute (.sbcZp zp) sbcRoutine s

/-- EB, SBC Immediate (R274). -/
def execSbcImmEB (imm : Byte) (s : State) : Result := execute (.sbcImmEB imm) sbcRoutine s

/-- ED, SBC Absolute (R193). -/
def execSbcAbs (addr : Word) (s : State) : Result := execute (.sbcAbs addr) sbcRoutine s

/-- F1, SBC IndirectIndexed (R193). -/
def execSbcIzy (zp : Byte) (s : State) : Result := execute (.sbcIzy zp) sbcRoutine s

/-- F5, SBC ZeroPageX (R193). -/
def execSbcZpx (zp : Byte) (s : State) : Result := execute (.sbcZpx zp) sbcRoutine s

/-- F9, SBC AbsoluteY (R193). -/
def execSbcAby (addr : Word) (s : State) : Result := execute (.sbcAby addr) sbcRoutine s

/-- FD, SBC AbsoluteX (R193). -/
def execSbcAbx (addr : Word) (s : State) : Result := execute (.sbcAbx addr) sbcRoutine s

/-- `A <- A & M; setZN(A)` (R194). -/
def andRoutine : Routine := reading fun m s => (s.setA (s.cpu.a &&& m)).setZN (s.cpu.a &&& m)

/-- 21, AND IndexedIndirect (R194). -/
def execAndIzx (zp : Byte) (s : State) : Result := execute (.andIzx zp) andRoutine s

/-- 25, AND ZeroPage (R194). -/
def execAndZp (zp : Byte) (s : State) : Result := execute (.andZp zp) andRoutine s

/-- 29, AND Immediate (R194). -/
def execAndImm (imm : Byte) (s : State) : Result := execute (.andImm imm) andRoutine s

/-- 2D, AND Absolute (R194). -/
def execAndAbs (addr : Word) (s : State) : Result := execute (.andAbs addr) andRoutine s

/-- 31, AND IndirectIndexed (R194). -/
def execAndIzy (zp : Byte) (s : State) : Result := execute (.andIzy zp) andRoutine s

/-- 35, AND ZeroPageX (R194). -/
def execAndZpx (zp : Byte) (s : State) : Result := execute (.andZpx zp) andRoutine s

/-- 39, AND AbsoluteY (R194). -/
def execAndAby (addr : Word) (s : State) : Result := execute (.andAby addr) andRoutine s

/-- 3D, AND AbsoluteX (R194). -/
def execAndAbx (addr : Word) (s : State) : Result := execute (.andAbx addr) andRoutine s

/-- `A <- A | M; setZN(A)` (R195). -/
def oraRoutine : Routine := reading fun m s => (s.setA (s.cpu.a ||| m)).setZN (s.cpu.a ||| m)

/-- 01, ORA IndexedIndirect (R195). -/
def execOraIzx (zp : Byte) (s : State) : Result := execute (.oraIzx zp) oraRoutine s

/-- 05, ORA ZeroPage (R195). -/
def execOraZp (zp : Byte) (s : State) : Result := execute (.oraZp zp) oraRoutine s

/-- 09, ORA Immediate (R195). -/
def execOraImm (imm : Byte) (s : State) : Result := execute (.oraImm imm) oraRoutine s

/-- 0D, ORA Absolute (R195). -/
def execOraAbs (addr : Word) (s : State) : Result := execute (.oraAbs addr) oraRoutine s

/-- 11, ORA IndirectIndexed (R195). -/
def execOraIzy (zp : Byte) (s : State) : Result := execute (.oraIzy zp) oraRoutine s

/-- 15, ORA ZeroPageX (R195). -/
def execOraZpx (zp : Byte) (s : State) : Result := execute (.oraZpx zp) oraRoutine s

/-- 19, ORA AbsoluteY (R195). -/
def execOraAby (addr : Word) (s : State) : Result := execute (.oraAby addr) oraRoutine s

/-- 1D, ORA AbsoluteX (R195). -/
def execOraAbx (addr : Word) (s : State) : Result := execute (.oraAbx addr) oraRoutine s

/-- `A <- A ^ M; setZN(A)` (R196). -/
def eorRoutine : Routine := reading fun m s => (s.setA (s.cpu.a ^^^ m)).setZN (s.cpu.a ^^^ m)

/-- 41, EOR IndexedIndirect (R196). -/
def execEorIzx (zp : Byte) (s : State) : Result := execute (.eorIzx zp) eorRoutine s

/-- 45, EOR ZeroPage (R196). -/
def execEorZp (zp : Byte) (s : State) : Result := execute (.eorZp zp) eorRoutine s

/-- 49, EOR Immediate (R196). -/
def execEorImm (imm : Byte) (s : State) : Result := execute (.eorImm imm) eorRoutine s

/-- 4D, EOR Absolute (R196). -/
def execEorAbs (addr : Word) (s : State) : Result := execute (.eorAbs addr) eorRoutine s

/-- 51, EOR IndirectIndexed (R196). -/
def execEorIzy (zp : Byte) (s : State) : Result := execute (.eorIzy zp) eorRoutine s

/-- 55, EOR ZeroPageX (R196). -/
def execEorZpx (zp : Byte) (s : State) : Result := execute (.eorZpx zp) eorRoutine s

/-- 59, EOR AbsoluteY (R196). -/
def execEorAby (addr : Word) (s : State) : Result := execute (.eorAby addr) eorRoutine s

/-- 5D, EOR AbsoluteX (R196). -/
def execEorAbx (addr : Word) (s : State) : Result := execute (.eorAbx addr) eorRoutine s

/-- `Compare(A, M)` (R198). -/
def cmpRoutine : Routine := reading fun m s => s.compare s.cpu.a m

/-- C1, CMP IndexedIndirect (R198). -/
def execCmpIzx (zp : Byte) (s : State) : Result := execute (.cmpIzx zp) cmpRoutine s

/-- C5, CMP ZeroPage (R198). -/
def execCmpZp (zp : Byte) (s : State) : Result := execute (.cmpZp zp) cmpRoutine s

/-- C9, CMP Immediate (R198). -/
def execCmpImm (imm : Byte) (s : State) : Result := execute (.cmpImm imm) cmpRoutine s

/-- CD, CMP Absolute (R198). -/
def execCmpAbs (addr : Word) (s : State) : Result := execute (.cmpAbs addr) cmpRoutine s

/-- D1, CMP IndirectIndexed (R198). -/
def execCmpIzy (zp : Byte) (s : State) : Result := execute (.cmpIzy zp) cmpRoutine s

/-- D5, CMP ZeroPageX (R198). -/
def execCmpZpx (zp : Byte) (s : State) : Result := execute (.cmpZpx zp) cmpRoutine s

/-- D9, CMP AbsoluteY (R198). -/
def execCmpAby (addr : Word) (s : State) : Result := execute (.cmpAby addr) cmpRoutine s

/-- DD, CMP AbsoluteX (R198). -/
def execCmpAbx (addr : Word) (s : State) : Result := execute (.cmpAbx addr) cmpRoutine s

/-- `Compare(X, M)` (R199). -/
def cpxRoutine : Routine := reading fun m s => s.compare s.cpu.x m

/-- E0, CPX Immediate (R199). -/
def execCpxImm (imm : Byte) (s : State) : Result := execute (.cpxImm imm) cpxRoutine s

/-- E4, CPX ZeroPage (R199). -/
def execCpxZp (zp : Byte) (s : State) : Result := execute (.cpxZp zp) cpxRoutine s

/-- EC, CPX Absolute (R199). -/
def execCpxAbs (addr : Word) (s : State) : Result := execute (.cpxAbs addr) cpxRoutine s

/-- `Compare(Y, M)` (R200). -/
def cpyRoutine : Routine := reading fun m s => s.compare s.cpu.y m

/-- C0, CPY Immediate (R200). -/
def execCpyImm (imm : Byte) (s : State) : Result := execute (.cpyImm imm) cpyRoutine s

/-- C4, CPY ZeroPage (R200). -/
def execCpyZp (zp : Byte) (s : State) : Result := execute (.cpyZp zp) cpyRoutine s

/-- CC, CPY Absolute (R200). -/
def execCpyAbs (addr : Word) (s : State) : Result := execute (.cpyAbs addr) cpyRoutine s

/-- Z from `A & M`, V and N from `M` (R201). -/
def bitRoutine : Routine := reading fun m s => s.setP (flagsBit s.cpu.p s.cpu.a m)

/-- 24, BIT ZeroPage (R201). -/
def execBitZp (zp : Byte) (s : State) : Result := execute (.bitZp zp) bitRoutine s

/-- 2C, BIT Absolute (R201). -/
def execBitAbs (addr : Word) (s : State) : Result := execute (.bitAbs addr) bitRoutine s

/-- `r <- M + 1; MemWrite(ea, 1, r); setZN(r)` (R202). -/
def incRoutine : Routine := modifying (fun v s => (v + 1#8, s)) (fun r s => s.setZN r)

/-- E6, INC ZeroPage (R202). -/
def execIncZp (zp : Byte) (s : State) : Result := execute (.incZp zp) incRoutine s

/-- EE, INC Absolute (R202). -/
def execIncAbs (addr : Word) (s : State) : Result := execute (.incAbs addr) incRoutine s

/-- F6, INC ZeroPageX (R202). -/
def execIncZpx (zp : Byte) (s : State) : Result := execute (.incZpx zp) incRoutine s

/-- FE, INC AbsoluteX (R202). -/
def execIncAbx (addr : Word) (s : State) : Result := execute (.incAbx addr) incRoutine s

/-- `r <- M - 1; MemWrite(ea, 1, r); setZN(r)` (R203). -/
def decRoutine : Routine := modifying (fun v s => (v - 1#8, s)) (fun r s => s.setZN r)

/-- C6, DEC ZeroPage (R203). -/
def execDecZp (zp : Byte) (s : State) : Result := execute (.decZp zp) decRoutine s

/-- CE, DEC Absolute (R203). -/
def execDecAbs (addr : Word) (s : State) : Result := execute (.decAbs addr) decRoutine s

/-- D6, DEC ZeroPageX (R203). -/
def execDecZpx (zp : Byte) (s : State) : Result := execute (.decZpx zp) decRoutine s

/-- DE, DEC AbsoluteX (R203). -/
def execDecAbx (addr : Word) (s : State) : Result := execute (.decAbx addr) decRoutine s

/-- `X <- X + 1; setZN(X)` (R204). -/
def inxRoutine : Routine := registers fun s => (s.setX (s.cpu.x + 1#8)).setZN (s.cpu.x + 1#8)

/-- E8, INX Implied (R204). -/
def execInx (s : State) : Result := execute .inx inxRoutine s

/-- `Y <- Y + 1; setZN(Y)` (R205). -/
def inyRoutine : Routine := registers fun s => (s.setY (s.cpu.y + 1#8)).setZN (s.cpu.y + 1#8)

/-- C8, INY Implied (R205). -/
def execIny (s : State) : Result := execute .iny inyRoutine s

/-- `X <- X - 1; setZN(X)` (R206). -/
def dexRoutine : Routine := registers fun s => (s.setX (s.cpu.x - 1#8)).setZN (s.cpu.x - 1#8)

/-- CA, DEX Implied (R206). -/
def execDex (s : State) : Result := execute .dex dexRoutine s

/-- `Y <- Y - 1; setZN(Y)` (R207). -/
def deyRoutine : Routine := registers fun s => (s.setY (s.cpu.y - 1#8)).setZN (s.cpu.y - 1#8)

/-- 88, DEY Implied (R207). -/
def execDey (s : State) : Result := execute .dey deyRoutine s

end Sys2Proof.Machine
end

