-- ==== Sys2Proof/Machine/ControlFlow.lean ====
section
/-! DEFINITION. Control transfer instructions (44_control_flow.md R230 to R245). -/

namespace Sys2Proof.Machine

/-- `PC <- ea` (R230). -/
def jmpRoutine : Routine := fun row ops s => do
  let ea ← effectiveAddress row ops
  return (0, s.setPc ea)

/-- 4C, JMP Absolute (R230). -/
def execJmpAbs (addr : Word) (s : State) : Result := execute (.jmpAbs addr) jmpRoutine s

/-- 6C, JMP Indirect (R230). -/
def execJmpInd (ptr : Word) (s : State) : Result := execute (.jmpInd ptr) jmpRoutine s

/-- `push16(PC - 1); PC <- ea` (R231). -/
def jsrRoutine : Routine := fun row ops s => do
  let ea ← effectiveAddress row ops
  let s ← push16 (s.cpu.pc - 1#16) s
  return (0, s.setPc ea)

/-- 20, JSR Absolute (R231). -/
def execJsrAbs (addr : Word) (s : State) : Result := execute (.jsrAbs addr) jsrRoutine s

/-- `PC <- pull16() + 1` (R232). -/
def rtsRoutine : Routine := registers fun s =>
  let (w, s) := pull16 s
  s.setPc (w + 1#16)

/-- 60, RTS Implied (R232). -/
def execRts (s : State) : Result := execute .rts rtsRoutine s

/-- The return from an interrupt (R233). -/
def rtiRoutine : Routine := registers returnFromInterrupt

/-- 40, RTI Implied (R233). -/
def execRti (s : State) : Result := execute .rti rtiRoutine s

/-- The software interrupt (R234): the padding byte is skipped by the return address and not fetched (log entry 7). -/
def brkRoutine : Routine := pushing fun s =>
  takeInterrupt (s.cpu.pc + 1#16) (pushedByInstruction s.cpu.p) brkVector s

/-- 00, BRK Implied (R234). -/
def execBrk (s : State) : Result := execute .brk brkRoutine s

/-- `Branch(P.C = 0)` (R236). -/
def bccRoutine : Routine := branching .c false

/-- 90, BCC Relative (R236). -/
def execBcc (off : Byte) (s : State) : Result := execute (.bcc off) bccRoutine s

/-- `Branch(P.C = 1)` (R237). -/
def bcsRoutine : Routine := branching .c true

/-- B0, BCS Relative (R237). -/
def execBcs (off : Byte) (s : State) : Result := execute (.bcs off) bcsRoutine s

/-- `Branch(P.Z = 1)` (R238). -/
def beqRoutine : Routine := branching .z true

/-- F0, BEQ Relative (R238). -/
def execBeq (off : Byte) (s : State) : Result := execute (.beq off) beqRoutine s

/-- `Branch(P.N = 1)` (R239). -/
def bmiRoutine : Routine := branching .n true

/-- 30, BMI Relative (R239). -/
def execBmi (off : Byte) (s : State) : Result := execute (.bmi off) bmiRoutine s

/-- `Branch(P.Z = 0)` (R240). -/
def bneRoutine : Routine := branching .z false

/-- D0, BNE Relative (R240). -/
def execBne (off : Byte) (s : State) : Result := execute (.bne off) bneRoutine s

/-- `Branch(P.N = 0)` (R241). -/
def bplRoutine : Routine := branching .n false

/-- 10, BPL Relative (R241). -/
def execBpl (off : Byte) (s : State) : Result := execute (.bpl off) bplRoutine s

/-- `Branch(P.V = 0)` (R242). -/
def bvcRoutine : Routine := branching .v false

/-- 50, BVC Relative (R242). -/
def execBvc (off : Byte) (s : State) : Result := execute (.bvc off) bvcRoutine s

/-- `Branch(P.V = 1)` (R243). -/
def bvsRoutine : Routine := branching .v true

/-- 70, BVS Relative (R243). -/
def execBvs (off : Byte) (s : State) : Result := execute (.bvs off) bvsRoutine s

end Sys2Proof.Machine
end

