-- ==== Sys2Proof/Machine/Gated.lean ====
section
/-! DEFINITION. The gated unofficial instructions (46_unofficial.md R281 to R292), executed only under `ADMIT_TIER3`, and the halt slots (R293). -/

namespace Sys2Proof.Machine

/-- The value `StoreHi` stores (R289): the register ANDed with the high byte of the base, `ea - idx`, plus one. -/
def storeHiValue (reg idx : Byte) (ea : Word) : Byte := reg &&& ((ea - zext16 idx).hi + 1#8)

/-- The address `StoreHi` stores to (R289): a page crossing replaces the high byte of `ea` by the value. -/
def storeHiAddress (crossed : Bool) (reg idx : Byte) (ea : Word) : Word :=
  if crossed then Word.ofBytes (storeHiValue reg idx ea) ea.lo else ea

/-- `StoreHi(reg, idx)` (R289), shared by R289 to R292. -/
def storeHi (reg idx : Byte) (row : Row) (ops : Operands) (s : State) : Except Fault (Nat × State) := do
  let ea ← effectiveAddress row ops
  let s ← memWrite (storeHiAddress ops.pageCrossed reg idx ea) (storeHiValue reg idx ea) s
  return (0, s)

/-- AND, then copy N to C (R282). -/
def ancRoutine : Routine := immediateOnly fun m s =>
  let s := (s.setA (s.cpu.a &&& m)).setZN (s.cpu.a &&& m)
  s.setFlag .c (s.flag .n)

/-- 0B, ANC Immediate (R282). -/
def execAncImm0B (imm : Byte) (s : State) : Result := execute (.ancImm0B imm) ancRoutine s

/-- 2B, ANC Immediate (R282). -/
def execAncImm2B (imm : Byte) (s : State) : Result := execute (.ancImm2B imm) ancRoutine s

/-- AND, then shift right (R283). -/
def alrRoutine : Routine := immediateOnly fun m s =>
  let t := s.cpu.a &&& m
  ((s.setFlag .c (bit t 0)).setA (t >>> 1)).setZN (t >>> 1)

/-- 4B, ALR Immediate (R283). -/
def execAlrImm (imm : Byte) (s : State) : Result := execute (.alrImm imm) alrRoutine s

/-- AND, then rotate right with special flags (R284). -/
def arrRoutine : Routine := immediateOnly fun m s =>
  let t := s.cpu.a &&& m
  let a := (t >>> 1) ||| (boolByte (s.flag .c) <<< 7)
  let s := (s.setA a).setZN a
  (s.setFlag .c (bit a 6)).setFlag .v (bit a 6 ^^ bit a 5)

/-- 6B, ARR Immediate (R284). -/
def execArrImm (imm : Byte) (s : State) : Result := execute (.arrImm imm) arrRoutine s

/-- (A AND X) minus the immediate into X, without borrow (R285). -/
def axsRoutine : Routine := immediateOnly fun m s =>
  let t := s.cpu.a &&& s.cpu.x
  ((s.setFlag .c (decide (m ≤ t))).setX (t - m)).setZN (t - m)

/-- CB, AXS Immediate (R285). -/
def execAxsImm (imm : Byte) (s : State) : Result := execute (.axsImm imm) axsRoutine s

/-- A, X and SP from memory AND SP (R286). -/
def lasRoutine : Routine := reading fun m s =>
  let t := m &&& s.cpu.sp
  (((s.setA t).setX t).setSp t).setZN t

/-- BB, LAS AbsoluteY (R286). -/
def execLasAby (addr : Word) (s : State) : Result := execute (.lasAby addr) lasRoutine s

/-- `A <- (A | MAGIC) & X & imm; setZN(A)` (R287). -/
def xaaRoutine : Routine := immediateOnly fun m s =>
  let a := (s.cpu.a ||| s.params.magic) &&& s.cpu.x &&& m
  (s.setA a).setZN a

/-- 8B, XAA Immediate (R287). -/
def execXaaImm (imm : Byte) (s : State) : Result := execute (.xaaImm imm) xaaRoutine s

/-- `t <- (A | MAGIC) & imm; A <- t; X <- t; setZN(t)` (R288). -/
def lxaRoutine : Routine := immediateOnly fun m s =>
  let t := (s.cpu.a ||| s.params.magic) &&& m
  ((s.setA t).setX t).setZN t

/-- AB, LXA Immediate (R288). -/
def execLxaImm (imm : Byte) (s : State) : Result := execute (.lxaImm imm) lxaRoutine s

/-- `StoreHi(A & X, Y)` (R289). -/
def ahxRoutine : Routine := fun row ops s => storeHi (s.cpu.a &&& s.cpu.x) s.cpu.y row ops s

/-- 93, AHX IndirectIndexed (R289). -/
def execAhxIzy (zp : Byte) (s : State) : Result := execute (.ahxIzy zp) ahxRoutine s

/-- 9F, AHX AbsoluteY (R289). -/
def execAhxAby (addr : Word) (s : State) : Result := execute (.ahxAby addr) ahxRoutine s

/-- `StoreHi(Y, X)` (R290). -/
def shyRoutine : Routine := fun row ops s => storeHi s.cpu.y s.cpu.x row ops s

/-- 9C, SHY AbsoluteX (R290). -/
def execShyAbx (addr : Word) (s : State) : Result := execute (.shyAbx addr) shyRoutine s

/-- `StoreHi(X, Y)` (R291). -/
def shxRoutine : Routine := fun row ops s => storeHi s.cpu.x s.cpu.y row ops s

/-- 9E, SHX AbsoluteY (R291). -/
def execShxAby (addr : Word) (s : State) : Result := execute (.shxAby addr) shxRoutine s

/-- `SP <- A & X; StoreHi(SP, Y)`, with the new SP (R292). -/
def tasRoutine : Routine := fun row ops s =>
  let s := s.setSp (s.cpu.a &&& s.cpu.x)
  storeHi s.cpu.sp s.cpu.y row ops s

/-- 9B, TAS AbsoluteY (R292). -/
def execTasAby (addr : Word) (s : State) : Result := execute (.tasAby addr) tasRoutine s

/-- 02, KIL (R293). -/
def execKil02 (s : State) : Result := haltSlot 0x02#8 s

/-- 12, KIL (R293). -/
def execKil12 (s : State) : Result := haltSlot 0x12#8 s

/-- 22, KIL (R293). -/
def execKil22 (s : State) : Result := haltSlot 0x22#8 s

/-- 32, KIL (R293). -/
def execKil32 (s : State) : Result := haltSlot 0x32#8 s

/-- 42, KIL (R293). -/
def execKil42 (s : State) : Result := haltSlot 0x42#8 s

/-- 52, KIL (R293). -/
def execKil52 (s : State) : Result := haltSlot 0x52#8 s

/-- 62, KIL (R293). -/
def execKil62 (s : State) : Result := haltSlot 0x62#8 s

/-- 72, KIL (R293). -/
def execKil72 (s : State) : Result := haltSlot 0x72#8 s

/-- 92, KIL (R293). -/
def execKil92 (s : State) : Result := haltSlot 0x92#8 s

/-- B2, KIL (R293). -/
def execKilB2 (s : State) : Result := haltSlot 0xB2#8 s

/-- D2, KIL (R293). -/
def execKilD2 (s : State) : Result := haltSlot 0xD2#8 s

/-- F2, KIL (R293). -/
def execKilF2 (s : State) : Result := haltSlot 0xF2#8 s

end Sys2Proof.Machine
end

