-- ==== Sys2Proof/Machine/LoadStore.lean ====
section
/-! DEFINITION. Load, store and register transfer instructions (41_load_store_transfer.md R170 to R182). -/

namespace Sys2Proof.Machine

/-- `A <- M; setZN(A)` (R170). -/
def ldaRoutine : Routine := reading fun m s => (s.setA m).setZN m

/-- A1, LDA IndexedIndirect (R170). -/
def execLdaIzx (zp : Byte) (s : State) : Result := execute (.ldaIzx zp) ldaRoutine s

/-- A5, LDA ZeroPage (R170). -/
def execLdaZp (zp : Byte) (s : State) : Result := execute (.ldaZp zp) ldaRoutine s

/-- A9, LDA Immediate (R170). -/
def execLdaImm (imm : Byte) (s : State) : Result := execute (.ldaImm imm) ldaRoutine s

/-- AD, LDA Absolute (R170). -/
def execLdaAbs (addr : Word) (s : State) : Result := execute (.ldaAbs addr) ldaRoutine s

/-- B1, LDA IndirectIndexed (R170). -/
def execLdaIzy (zp : Byte) (s : State) : Result := execute (.ldaIzy zp) ldaRoutine s

/-- B5, LDA ZeroPageX (R170). -/
def execLdaZpx (zp : Byte) (s : State) : Result := execute (.ldaZpx zp) ldaRoutine s

/-- B9, LDA AbsoluteY (R170). -/
def execLdaAby (addr : Word) (s : State) : Result := execute (.ldaAby addr) ldaRoutine s

/-- BD, LDA AbsoluteX (R170). -/
def execLdaAbx (addr : Word) (s : State) : Result := execute (.ldaAbx addr) ldaRoutine s

/-- `X <- M; setZN(X)` (R171). -/
def ldxRoutine : Routine := reading fun m s => (s.setX m).setZN m

/-- A2, LDX Immediate (R171). -/
def execLdxImm (imm : Byte) (s : State) : Result := execute (.ldxImm imm) ldxRoutine s

/-- A6, LDX ZeroPage (R171). -/
def execLdxZp (zp : Byte) (s : State) : Result := execute (.ldxZp zp) ldxRoutine s

/-- AE, LDX Absolute (R171). -/
def execLdxAbs (addr : Word) (s : State) : Result := execute (.ldxAbs addr) ldxRoutine s

/-- B6, LDX ZeroPageY (R171). -/
def execLdxZpy (zp : Byte) (s : State) : Result := execute (.ldxZpy zp) ldxRoutine s

/-- BE, LDX AbsoluteY (R171). -/
def execLdxAby (addr : Word) (s : State) : Result := execute (.ldxAby addr) ldxRoutine s

/-- `Y <- M; setZN(Y)` (R172). -/
def ldyRoutine : Routine := reading fun m s => (s.setY m).setZN m

/-- A0, LDY Immediate (R172). -/
def execLdyImm (imm : Byte) (s : State) : Result := execute (.ldyImm imm) ldyRoutine s

/-- A4, LDY ZeroPage (R172). -/
def execLdyZp (zp : Byte) (s : State) : Result := execute (.ldyZp zp) ldyRoutine s

/-- AC, LDY Absolute (R172). -/
def execLdyAbs (addr : Word) (s : State) : Result := execute (.ldyAbs addr) ldyRoutine s

/-- B4, LDY ZeroPageX (R172). -/
def execLdyZpx (zp : Byte) (s : State) : Result := execute (.ldyZpx zp) ldyRoutine s

/-- BC, LDY AbsoluteX (R172). -/
def execLdyAbx (addr : Word) (s : State) : Result := execute (.ldyAbx addr) ldyRoutine s

/-- `MemWrite(ea, 1, A)` (R173). -/
def staRoutine : Routine := storing fun s => s.cpu.a

/-- 81, STA IndexedIndirect (R173). -/
def execStaIzx (zp : Byte) (s : State) : Result := execute (.staIzx zp) staRoutine s

/-- 85, STA ZeroPage (R173). -/
def execStaZp (zp : Byte) (s : State) : Result := execute (.staZp zp) staRoutine s

/-- 8D, STA Absolute (R173). -/
def execStaAbs (addr : Word) (s : State) : Result := execute (.staAbs addr) staRoutine s

/-- 91, STA IndirectIndexed (R173). -/
def execStaIzy (zp : Byte) (s : State) : Result := execute (.staIzy zp) staRoutine s

/-- 95, STA ZeroPageX (R173). -/
def execStaZpx (zp : Byte) (s : State) : Result := execute (.staZpx zp) staRoutine s

/-- 99, STA AbsoluteY (R173). -/
def execStaAby (addr : Word) (s : State) : Result := execute (.staAby addr) staRoutine s

/-- 9D, STA AbsoluteX (R173). -/
def execStaAbx (addr : Word) (s : State) : Result := execute (.staAbx addr) staRoutine s

/-- `MemWrite(ea, 1, X)` (R174). -/
def stxRoutine : Routine := storing fun s => s.cpu.x

/-- 86, STX ZeroPage (R174). -/
def execStxZp (zp : Byte) (s : State) : Result := execute (.stxZp zp) stxRoutine s

/-- 8E, STX Absolute (R174). -/
def execStxAbs (addr : Word) (s : State) : Result := execute (.stxAbs addr) stxRoutine s

/-- 96, STX ZeroPageY (R174). -/
def execStxZpy (zp : Byte) (s : State) : Result := execute (.stxZpy zp) stxRoutine s

/-- `MemWrite(ea, 1, Y)` (R175). -/
def styRoutine : Routine := storing fun s => s.cpu.y

/-- 84, STY ZeroPage (R175). -/
def execStyZp (zp : Byte) (s : State) : Result := execute (.styZp zp) styRoutine s

/-- 8C, STY Absolute (R175). -/
def execStyAbs (addr : Word) (s : State) : Result := execute (.styAbs addr) styRoutine s

/-- 94, STY ZeroPageX (R175). -/
def execStyZpx (zp : Byte) (s : State) : Result := execute (.styZpx zp) styRoutine s

/-- `X <- A; setZN(X)` (R176). -/
def taxRoutine : Routine := registers fun s => (s.setX s.cpu.a).setZN s.cpu.a

/-- AA, TAX Implied (R176). -/
def execTax (s : State) : Result := execute .tax taxRoutine s

/-- `Y <- A; setZN(Y)` (R177). -/
def tayRoutine : Routine := registers fun s => (s.setY s.cpu.a).setZN s.cpu.a

/-- A8, TAY Implied (R177). -/
def execTay (s : State) : Result := execute .tay tayRoutine s

/-- `X <- SP; setZN(X)` (R178). -/
def tsxRoutine : Routine := registers fun s => (s.setX s.cpu.sp).setZN s.cpu.sp

/-- BA, TSX Implied (R178). -/
def execTsx (s : State) : Result := execute .tsx tsxRoutine s

/-- `A <- X; setZN(A)` (R179). -/
def txaRoutine : Routine := registers fun s => (s.setA s.cpu.x).setZN s.cpu.x

/-- 8A, TXA Implied (R179). -/
def execTxa (s : State) : Result := execute .txa txaRoutine s

/-- `SP <- X`, no flag (R180). -/
def txsRoutine : Routine := registers fun s => s.setSp s.cpu.x

/-- 9A, TXS Implied (R180). -/
def execTxs (s : State) : Result := execute .txs txsRoutine s

/-- `A <- Y; setZN(A)` (R181). -/
def tyaRoutine : Routine := registers fun s => (s.setA s.cpu.y).setZN s.cpu.y

/-- 98, TYA Implied (R181). -/
def execTya (s : State) : Result := execute .tya tyaRoutine s

end Sys2Proof.Machine
end

