-- ==== Sys2Proof/Machine/Shift.lean ====
section
/-! DEFINITION. Shift and rotate instructions (43_shift_rotate.md R220 to R224), by one bit. -/

namespace Sys2Proof.Machine

/-- Arithmetic shift left (R221). -/
def aslRoutine : Routine := shifting shiftLeft

/-- 06, ASL ZeroPage (R221). -/
def execAslZp (zp : Byte) (s : State) : Result := execute (.aslZp zp) aslRoutine s

/-- 0A, ASL Accumulator (R221). -/
def execAslAcc (s : State) : Result := execute .aslAcc aslRoutine s

/-- 0E, ASL Absolute (R221). -/
def execAslAbs (addr : Word) (s : State) : Result := execute (.aslAbs addr) aslRoutine s

/-- 16, ASL ZeroPageX (R221). -/
def execAslZpx (zp : Byte) (s : State) : Result := execute (.aslZpx zp) aslRoutine s

/-- 1E, ASL AbsoluteX (R221). -/
def execAslAbx (addr : Word) (s : State) : Result := execute (.aslAbx addr) aslRoutine s

/-- Logical shift right (R222). -/
def lsrRoutine : Routine := shifting shiftRight

/-- 46, LSR ZeroPage (R222). -/
def execLsrZp (zp : Byte) (s : State) : Result := execute (.lsrZp zp) lsrRoutine s

/-- 4A, LSR Accumulator (R222). -/
def execLsrAcc (s : State) : Result := execute .lsrAcc lsrRoutine s

/-- 4E, LSR Absolute (R222). -/
def execLsrAbs (addr : Word) (s : State) : Result := execute (.lsrAbs addr) lsrRoutine s

/-- 56, LSR ZeroPageX (R222). -/
def execLsrZpx (zp : Byte) (s : State) : Result := execute (.lsrZpx zp) lsrRoutine s

/-- 5E, LSR AbsoluteX (R222). -/
def execLsrAbx (addr : Word) (s : State) : Result := execute (.lsrAbx addr) lsrRoutine s

/-- Rotate left through carry (R223). -/
def rolRoutine : Routine := shifting rotateLeft

/-- 26, ROL ZeroPage (R223). -/
def execRolZp (zp : Byte) (s : State) : Result := execute (.rolZp zp) rolRoutine s

/-- 2A, ROL Accumulator (R223). -/
def execRolAcc (s : State) : Result := execute .rolAcc rolRoutine s

/-- 2E, ROL Absolute (R223). -/
def execRolAbs (addr : Word) (s : State) : Result := execute (.rolAbs addr) rolRoutine s

/-- 36, ROL ZeroPageX (R223). -/
def execRolZpx (zp : Byte) (s : State) : Result := execute (.rolZpx zp) rolRoutine s

/-- 3E, ROL AbsoluteX (R223). -/
def execRolAbx (addr : Word) (s : State) : Result := execute (.rolAbx addr) rolRoutine s

/-- Rotate right through carry (R224). -/
def rorRoutine : Routine := shifting rotateRight

/-- 66, ROR ZeroPage (R224). -/
def execRorZp (zp : Byte) (s : State) : Result := execute (.rorZp zp) rorRoutine s

/-- 6A, ROR Accumulator (R224). -/
def execRorAcc (s : State) : Result := execute .rorAcc rorRoutine s

/-- 6E, ROR Absolute (R224). -/
def execRorAbs (addr : Word) (s : State) : Result := execute (.rorAbs addr) rorRoutine s

/-- 76, ROR ZeroPageX (R224). -/
def execRorZpx (zp : Byte) (s : State) : Result := execute (.rorZpx zp) rorRoutine s

/-- 7E, ROR AbsoluteX (R224). -/
def execRorAbx (addr : Word) (s : State) : Result := execute (.rorAbx addr) rorRoutine s

end Sys2Proof.Machine
end

