-- ==== Sys2Proof/Machine/StackFlags.lean ====
section
/-! DEFINITION. Stack, flag and no-operation instructions (45_stack_flags_nop.md R250 to R262, 46_unofficial.md R271). -/

namespace Sys2Proof.Machine

/-- `push8(A)` (R250). -/
def phaRoutine : Routine := pushing fun s => push8 s.cpu.a s

/-- 48, PHA Implied (R250). -/
def execPha (s : State) : Result := execute .pha phaRoutine s

/-- `push8(P | 0x30)` (R251). -/
def phpRoutine : Routine := pushing fun s => push8 (pushedByInstruction s.cpu.p) s

/-- 08, PHP Implied (R251). -/
def execPhp (s : State) : Result := execute .php phpRoutine s

/-- `A <- pull8(); setZN(A)` (R252). -/
def plaRoutine : Routine := registers fun s =>
  let (b, s) := pull8 s
  (s.setA b).setZN b

/-- 68, PLA Implied (R252). -/
def execPla (s : State) : Result := execute .pla plaRoutine s

/-- `P <- (pull8() | 0x20) & 0xEF` (R253). -/
def plpRoutine : Routine := registers fun s =>
  let (b, s) := pull8 s
  s.setP (restoredStatus b)

/-- 28, PLP Implied (R253). -/
def execPlp (s : State) : Result := execute .plp plpRoutine s

/-- `P.C <- 0` (R254). -/
def clcRoutine : Routine := registers fun s => s.setFlag .c false

/-- 18, CLC Implied (R254). -/
def execClc (s : State) : Result := execute .clc clcRoutine s

/-- `P.D <- 0` (R255). -/
def cldRoutine : Routine := registers fun s => s.setFlag .d false

/-- D8, CLD Implied (R255). -/
def execCld (s : State) : Result := execute .cld cldRoutine s

/-- `P.I <- 0` (R256). -/
def cliRoutine : Routine := registers fun s => s.setFlag .i false

/-- 58, CLI Implied (R256). -/
def execCli (s : State) : Result := execute .cli cliRoutine s

/-- `P.V <- 0` (R257). -/
def clvRoutine : Routine := registers fun s => s.setFlag .v false

/-- B8, CLV Implied (R257). -/
def execClv (s : State) : Result := execute .clv clvRoutine s

/-- `P.C <- 1` (R258). -/
def secRoutine : Routine := registers fun s => s.setFlag .c true

/-- 38, SEC Implied (R258). -/
def execSec (s : State) : Result := execute .sec secRoutine s

/-- `P.D <- 1` (R259). -/
def sedRoutine : Routine := registers fun s => s.setFlag .d true

/-- F8, SED Implied (R259). -/
def execSed (s : State) : Result := execute .sed sedRoutine s

/-- `P.I <- 1` (R260). -/
def seiRoutine : Routine := registers fun s => s.setFlag .i true

/-- 78, SEI Implied (R260). -/
def execSei (s : State) : Result := execute .sei seiRoutine s

/-- Nothing after the resolver (R261, R271): the operand bytes are passed and `ea` is not read. -/
def nopRoutine : Routine := registers fun s => s

/-- EA, NOP Implied (R261). -/
def execNop (s : State) : Result := execute .nop nopRoutine s

/-- 04, NOP ZeroPage (R271). -/
def execNopZp04 (zp : Byte) (s : State) : Result := execute (.nopZp04 zp) nopRoutine s

/-- 0C, NOP Absolute (R271). -/
def execNopAbs (addr : Word) (s : State) : Result := execute (.nopAbs addr) nopRoutine s

/-- 14, NOP ZeroPageX (R271). -/
def execNopZpx14 (zp : Byte) (s : State) : Result := execute (.nopZpx14 zp) nopRoutine s

/-- 1A, NOP Implied (R271). -/
def execNop1A (s : State) : Result := execute .nop1A nopRoutine s

/-- 1C, NOP AbsoluteX (R271). -/
def execNopAbx1C (addr : Word) (s : State) : Result := execute (.nopAbx1C addr) nopRoutine s

/-- 34, NOP ZeroPageX (R271). -/
def execNopZpx34 (zp : Byte) (s : State) : Result := execute (.nopZpx34 zp) nopRoutine s

/-- 3A, NOP Implied (R271). -/
def execNop3A (s : State) : Result := execute .nop3A nopRoutine s

/-- 3C, NOP AbsoluteX (R271). -/
def execNopAbx3C (addr : Word) (s : State) : Result := execute (.nopAbx3C addr) nopRoutine s

/-- 44, NOP ZeroPage (R271). -/
def execNopZp44 (zp : Byte) (s : State) : Result := execute (.nopZp44 zp) nopRoutine s

/-- 54, NOP ZeroPageX (R271). -/
def execNopZpx54 (zp : Byte) (s : State) : Result := execute (.nopZpx54 zp) nopRoutine s

/-- 5A, NOP Implied (R271). -/
def execNop5A (s : State) : Result := execute .nop5A nopRoutine s

/-- 5C, NOP AbsoluteX (R271). -/
def execNopAbx5C (addr : Word) (s : State) : Result := execute (.nopAbx5C addr) nopRoutine s

/-- 64, NOP ZeroPage (R271). -/
def execNopZp64 (zp : Byte) (s : State) : Result := execute (.nopZp64 zp) nopRoutine s

/-- 74, NOP ZeroPageX (R271). -/
def execNopZpx74 (zp : Byte) (s : State) : Result := execute (.nopZpx74 zp) nopRoutine s

/-- 7A, NOP Implied (R271). -/
def execNop7A (s : State) : Result := execute .nop7A nopRoutine s

/-- 7C, NOP AbsoluteX (R271). -/
def execNopAbx7C (addr : Word) (s : State) : Result := execute (.nopAbx7C addr) nopRoutine s

/-- 80, NOP Immediate (R271). -/
def execNopImm80 (imm : Byte) (s : State) : Result := execute (.nopImm80 imm) nopRoutine s

/-- 82, NOP Immediate (R271). -/
def execNopImm82 (imm : Byte) (s : State) : Result := execute (.nopImm82 imm) nopRoutine s

/-- 89, NOP Immediate (R271). -/
def execNopImm89 (imm : Byte) (s : State) : Result := execute (.nopImm89 imm) nopRoutine s

/-- C2, NOP Immediate (R271). -/
def execNopImmC2 (imm : Byte) (s : State) : Result := execute (.nopImmC2 imm) nopRoutine s

/-- D4, NOP ZeroPageX (R271). -/
def execNopZpxD4 (zp : Byte) (s : State) : Result := execute (.nopZpxD4 zp) nopRoutine s

/-- DA, NOP Implied (R271). -/
def execNopDA (s : State) : Result := execute .nopDA nopRoutine s

/-- DC, NOP AbsoluteX (R271). -/
def execNopAbxDC (addr : Word) (s : State) : Result := execute (.nopAbxDC addr) nopRoutine s

/-- E2, NOP Immediate (R271). -/
def execNopImmE2 (imm : Byte) (s : State) : Result := execute (.nopImmE2 imm) nopRoutine s

/-- F4, NOP ZeroPageX (R271). -/
def execNopZpxF4 (zp : Byte) (s : State) : Result := execute (.nopZpxF4 zp) nopRoutine s

/-- FA, NOP Implied (R271). -/
def execNopFA (s : State) : Result := execute .nopFA nopRoutine s

/-- FC, NOP AbsoluteX (R271). -/
def execNopAbxFC (addr : Word) (s : State) : Result := execute (.nopAbxFC addr) nopRoutine s

end Sys2Proof.Machine
end

