-- ==== Sys2Proof/Machine/Unofficial.lean ====
section
/-! DEFINITION. The normative unofficial instructions (46_unofficial.md R271 to R280). -/

namespace Sys2Proof.Machine

/-- `A <- M; X <- M; setZN(M)` (R272). -/
def laxRoutine : Routine := reading fun m s => ((s.setA m).setX m).setZN m

/-- A3, LAX IndexedIndirect (R272). -/
def execLaxIzx (zp : Byte) (s : State) : Result := execute (.laxIzx zp) laxRoutine s

/-- A7, LAX ZeroPage (R272). -/
def execLaxZp (zp : Byte) (s : State) : Result := execute (.laxZp zp) laxRoutine s

/-- AF, LAX Absolute (R272). -/
def execLaxAbs (addr : Word) (s : State) : Result := execute (.laxAbs addr) laxRoutine s

/-- B3, LAX IndirectIndexed (R272). -/
def execLaxIzy (zp : Byte) (s : State) : Result := execute (.laxIzy zp) laxRoutine s

/-- B7, LAX ZeroPageY (R272). -/
def execLaxZpy (zp : Byte) (s : State) : Result := execute (.laxZpy zp) laxRoutine s

/-- BF, LAX AbsoluteY (R272). -/
def execLaxAby (addr : Word) (s : State) : Result := execute (.laxAby addr) laxRoutine s

/-- `MemWrite(ea, 1, A & X)` (R273). -/
def saxRoutine : Routine := storing fun s => s.cpu.a &&& s.cpu.x

/-- 83, SAX IndexedIndirect (R273). -/
def execSaxIzx (zp : Byte) (s : State) : Result := execute (.saxIzx zp) saxRoutine s

/-- 87, SAX ZeroPage (R273). -/
def execSaxZp (zp : Byte) (s : State) : Result := execute (.saxZp zp) saxRoutine s

/-- 8F, SAX Absolute (R273). -/
def execSaxAbs (addr : Word) (s : State) : Result := execute (.saxAbs addr) saxRoutine s

/-- 97, SAX ZeroPageY (R273). -/
def execSaxZpy (zp : Byte) (s : State) : Result := execute (.saxZpy zp) saxRoutine s

/-- Decrement memory, then compare with A (R275). -/
def dcpRoutine : Routine := modifying (fun v s => (v - 1#8, s)) (fun r s => s.compare s.cpu.a r)

/-- C3, DCP IndexedIndirect (R275). -/
def execDcpIzx (zp : Byte) (s : State) : Result := execute (.dcpIzx zp) dcpRoutine s

/-- C7, DCP ZeroPage (R275). -/
def execDcpZp (zp : Byte) (s : State) : Result := execute (.dcpZp zp) dcpRoutine s

/-- CF, DCP Absolute (R275). -/
def execDcpAbs (addr : Word) (s : State) : Result := execute (.dcpAbs addr) dcpRoutine s

/-- D3, DCP IndirectIndexed (R275). -/
def execDcpIzy (zp : Byte) (s : State) : Result := execute (.dcpIzy zp) dcpRoutine s

/-- D7, DCP ZeroPageX (R275). -/
def execDcpZpx (zp : Byte) (s : State) : Result := execute (.dcpZpx zp) dcpRoutine s

/-- DB, DCP AbsoluteY (R275). -/
def execDcpAby (addr : Word) (s : State) : Result := execute (.dcpAby addr) dcpRoutine s

/-- DF, DCP AbsoluteX (R275). -/
def execDcpAbx (addr : Word) (s : State) : Result := execute (.dcpAbx addr) dcpRoutine s

/-- Increment memory, then subtract from A (R276). -/
def isbRoutine : Routine := modifying (fun v s => (v + 1#8, s)) (fun r s => s.addCore (r ^^^ 0xFF#8))

/-- E3, ISB IndexedIndirect (R276). -/
def execIsbIzx (zp : Byte) (s : State) : Result := execute (.isbIzx zp) isbRoutine s

/-- E7, ISB ZeroPage (R276). -/
def execIsbZp (zp : Byte) (s : State) : Result := execute (.isbZp zp) isbRoutine s

/-- EF, ISB Absolute (R276). -/
def execIsbAbs (addr : Word) (s : State) : Result := execute (.isbAbs addr) isbRoutine s

/-- F3, ISB IndirectIndexed (R276). -/
def execIsbIzy (zp : Byte) (s : State) : Result := execute (.isbIzy zp) isbRoutine s

/-- F7, ISB ZeroPageX (R276). -/
def execIsbZpx (zp : Byte) (s : State) : Result := execute (.isbZpx zp) isbRoutine s

/-- FB, ISB AbsoluteY (R276). -/
def execIsbAby (addr : Word) (s : State) : Result := execute (.isbAby addr) isbRoutine s

/-- FF, ISB AbsoluteX (R276). -/
def execIsbAbx (addr : Word) (s : State) : Result := execute (.isbAbx addr) isbRoutine s

/-- Shift memory left, then OR into A (R277). -/
def sloRoutine : Routine := modifying shiftLeft (fun r s => (s.setA (s.cpu.a ||| r)).setZN (s.cpu.a ||| r))

/-- 03, SLO IndexedIndirect (R277). -/
def execSloIzx (zp : Byte) (s : State) : Result := execute (.sloIzx zp) sloRoutine s

/-- 07, SLO ZeroPage (R277). -/
def execSloZp (zp : Byte) (s : State) : Result := execute (.sloZp zp) sloRoutine s

/-- 0F, SLO Absolute (R277). -/
def execSloAbs (addr : Word) (s : State) : Result := execute (.sloAbs addr) sloRoutine s

/-- 13, SLO IndirectIndexed (R277). -/
def execSloIzy (zp : Byte) (s : State) : Result := execute (.sloIzy zp) sloRoutine s

/-- 17, SLO ZeroPageX (R277). -/
def execSloZpx (zp : Byte) (s : State) : Result := execute (.sloZpx zp) sloRoutine s

/-- 1B, SLO AbsoluteY (R277). -/
def execSloAby (addr : Word) (s : State) : Result := execute (.sloAby addr) sloRoutine s

/-- 1F, SLO AbsoluteX (R277). -/
def execSloAbx (addr : Word) (s : State) : Result := execute (.sloAbx addr) sloRoutine s

/-- Rotate memory left, then AND into A (R278). -/
def rlaRoutine : Routine := modifying rotateLeft (fun r s => (s.setA (s.cpu.a &&& r)).setZN (s.cpu.a &&& r))

/-- 23, RLA IndexedIndirect (R278). -/
def execRlaIzx (zp : Byte) (s : State) : Result := execute (.rlaIzx zp) rlaRoutine s

/-- 27, RLA ZeroPage (R278). -/
def execRlaZp (zp : Byte) (s : State) : Result := execute (.rlaZp zp) rlaRoutine s

/-- 2F, RLA Absolute (R278). -/
def execRlaAbs (addr : Word) (s : State) : Result := execute (.rlaAbs addr) rlaRoutine s

/-- 33, RLA IndirectIndexed (R278). -/
def execRlaIzy (zp : Byte) (s : State) : Result := execute (.rlaIzy zp) rlaRoutine s

/-- 37, RLA ZeroPageX (R278). -/
def execRlaZpx (zp : Byte) (s : State) : Result := execute (.rlaZpx zp) rlaRoutine s

/-- 3B, RLA AbsoluteY (R278). -/
def execRlaAby (addr : Word) (s : State) : Result := execute (.rlaAby addr) rlaRoutine s

/-- 3F, RLA AbsoluteX (R278). -/
def execRlaAbx (addr : Word) (s : State) : Result := execute (.rlaAbx addr) rlaRoutine s

/-- Shift memory right, then EOR into A (R279). -/
def sreRoutine : Routine := modifying shiftRight (fun r s => (s.setA (s.cpu.a ^^^ r)).setZN (s.cpu.a ^^^ r))

/-- 43, SRE IndexedIndirect (R279). -/
def execSreIzx (zp : Byte) (s : State) : Result := execute (.sreIzx zp) sreRoutine s

/-- 47, SRE ZeroPage (R279). -/
def execSreZp (zp : Byte) (s : State) : Result := execute (.sreZp zp) sreRoutine s

/-- 4F, SRE Absolute (R279). -/
def execSreAbs (addr : Word) (s : State) : Result := execute (.sreAbs addr) sreRoutine s

/-- 53, SRE IndirectIndexed (R279). -/
def execSreIzy (zp : Byte) (s : State) : Result := execute (.sreIzy zp) sreRoutine s

/-- 57, SRE ZeroPageX (R279). -/
def execSreZpx (zp : Byte) (s : State) : Result := execute (.sreZpx zp) sreRoutine s

/-- 5B, SRE AbsoluteY (R279). -/
def execSreAby (addr : Word) (s : State) : Result := execute (.sreAby addr) sreRoutine s

/-- 5F, SRE AbsoluteX (R279). -/
def execSreAbx (addr : Word) (s : State) : Result := execute (.sreAbx addr) sreRoutine s

/-- Rotate memory right, then add to A with the carry of the rotation (R280). -/
def rraRoutine : Routine := modifying rotateRight (fun r s => s.addCore r)

/-- 63, RRA IndexedIndirect (R280). -/
def execRraIzx (zp : Byte) (s : State) : Result := execute (.rraIzx zp) rraRoutine s

/-- 67, RRA ZeroPage (R280). -/
def execRraZp (zp : Byte) (s : State) : Result := execute (.rraZp zp) rraRoutine s

/-- 6F, RRA Absolute (R280). -/
def execRraAbs (addr : Word) (s : State) : Result := execute (.rraAbs addr) rraRoutine s

/-- 73, RRA IndirectIndexed (R280). -/
def execRraIzy (zp : Byte) (s : State) : Result := execute (.rraIzy zp) rraRoutine s

/-- 77, RRA ZeroPageX (R280). -/
def execRraZpx (zp : Byte) (s : State) : Result := execute (.rraZpx zp) rraRoutine s

/-- 7B, RRA AbsoluteY (R280). -/
def execRraAby (addr : Word) (s : State) : Result := execute (.rraAby addr) rraRoutine s

/-- 7F, RRA AbsoluteX (R280). -/
def execRraAbx (addr : Word) (s : State) : Result := execute (.rraAbx addr) rraRoutine s

end Sys2Proof.Machine
end

