-- ==== Sys2Proof/Machine/Dispatch.lean ====
section
/-! DEFINITION. One arm per constructor of Instr: the dispatcher of R133, each arm one direct call of its instruction's meaning. -/

namespace Sys2Proof.Machine

def exec (i : Instr) (s : State) : Host.Outcome State Fault Refusal :=
  match i with
  | .ldaIzx zp => Sys2Proof.Machine.execLdaIzx zp s
  | .ldaZp zp => Sys2Proof.Machine.execLdaZp zp s
  | .ldaImm imm => Sys2Proof.Machine.execLdaImm imm s
  | .ldaAbs addr => Sys2Proof.Machine.execLdaAbs addr s
  | .ldaIzy zp => Sys2Proof.Machine.execLdaIzy zp s
  | .ldaZpx zp => Sys2Proof.Machine.execLdaZpx zp s
  | .ldaAby addr => Sys2Proof.Machine.execLdaAby addr s
  | .ldaAbx addr => Sys2Proof.Machine.execLdaAbx addr s
  | .ldxImm imm => Sys2Proof.Machine.execLdxImm imm s
  | .ldxZp zp => Sys2Proof.Machine.execLdxZp zp s
  | .ldxAbs addr => Sys2Proof.Machine.execLdxAbs addr s
  | .ldxZpy zp => Sys2Proof.Machine.execLdxZpy zp s
  | .ldxAby addr => Sys2Proof.Machine.execLdxAby addr s
  | .ldyImm imm => Sys2Proof.Machine.execLdyImm imm s
  | .ldyZp zp => Sys2Proof.Machine.execLdyZp zp s
  | .ldyAbs addr => Sys2Proof.Machine.execLdyAbs addr s
  | .ldyZpx zp => Sys2Proof.Machine.execLdyZpx zp s
  | .ldyAbx addr => Sys2Proof.Machine.execLdyAbx addr s
  | .staIzx zp => Sys2Proof.Machine.execStaIzx zp s
  | .staZp zp => Sys2Proof.Machine.execStaZp zp s
  | .staAbs addr => Sys2Proof.Machine.execStaAbs addr s
  | .staIzy zp => Sys2Proof.Machine.execStaIzy zp s
  | .staZpx zp => Sys2Proof.Machine.execStaZpx zp s
  | .staAby addr => Sys2Proof.Machine.execStaAby addr s
  | .staAbx addr => Sys2Proof.Machine.execStaAbx addr s
  | .stxZp zp => Sys2Proof.Machine.execStxZp zp s
  | .stxAbs addr => Sys2Proof.Machine.execStxAbs addr s
  | .stxZpy zp => Sys2Proof.Machine.execStxZpy zp s
  | .styZp zp => Sys2Proof.Machine.execStyZp zp s
  | .styAbs addr => Sys2Proof.Machine.execStyAbs addr s
  | .styZpx zp => Sys2Proof.Machine.execStyZpx zp s
  | .tax => Sys2Proof.Machine.execTax s
  | .tay => Sys2Proof.Machine.execTay s
  | .tsx => Sys2Proof.Machine.execTsx s
  | .txa => Sys2Proof.Machine.execTxa s
  | .txs => Sys2Proof.Machine.execTxs s
  | .tya => Sys2Proof.Machine.execTya s
  | .adcIzx zp => Sys2Proof.Machine.execAdcIzx zp s
  | .adcZp zp => Sys2Proof.Machine.execAdcZp zp s
  | .adcImm imm => Sys2Proof.Machine.execAdcImm imm s
  | .adcAbs addr => Sys2Proof.Machine.execAdcAbs addr s
  | .adcIzy zp => Sys2Proof.Machine.execAdcIzy zp s
  | .adcZpx zp => Sys2Proof.Machine.execAdcZpx zp s
  | .adcAby addr => Sys2Proof.Machine.execAdcAby addr s
  | .adcAbx addr => Sys2Proof.Machine.execAdcAbx addr s
  | .sbcImm imm => Sys2Proof.Machine.execSbcImm imm s
  | .sbcIzx zp => Sys2Proof.Machine.execSbcIzx zp s
  | .sbcZp zp => Sys2Proof.Machine.execSbcZp zp s
  | .sbcImmEB imm => Sys2Proof.Machine.execSbcImmEB imm s
  | .sbcAbs addr => Sys2Proof.Machine.execSbcAbs addr s
  | .sbcIzy zp => Sys2Proof.Machine.execSbcIzy zp s
  | .sbcZpx zp => Sys2Proof.Machine.execSbcZpx zp s
  | .sbcAby addr => Sys2Proof.Machine.execSbcAby addr s
  | .sbcAbx addr => Sys2Proof.Machine.execSbcAbx addr s
  | .andIzx zp => Sys2Proof.Machine.execAndIzx zp s
  | .andZp zp => Sys2Proof.Machine.execAndZp zp s
  | .andImm imm => Sys2Proof.Machine.execAndImm imm s
  | .andAbs addr => Sys2Proof.Machine.execAndAbs addr s
  | .andIzy zp => Sys2Proof.Machine.execAndIzy zp s
  | .andZpx zp => Sys2Proof.Machine.execAndZpx zp s
  | .andAby addr => Sys2Proof.Machine.execAndAby addr s
  | .andAbx addr => Sys2Proof.Machine.execAndAbx addr s
  | .oraIzx zp => Sys2Proof.Machine.execOraIzx zp s
  | .oraZp zp => Sys2Proof.Machine.execOraZp zp s
  | .oraImm imm => Sys2Proof.Machine.execOraImm imm s
  | .oraAbs addr => Sys2Proof.Machine.execOraAbs addr s
  | .oraIzy zp => Sys2Proof.Machine.execOraIzy zp s
  | .oraZpx zp => Sys2Proof.Machine.execOraZpx zp s
  | .oraAby addr => Sys2Proof.Machine.execOraAby addr s
  | .oraAbx addr => Sys2Proof.Machine.execOraAbx addr s
  | .eorIzx zp => Sys2Proof.Machine.execEorIzx zp s
  | .eorZp zp => Sys2Proof.Machine.execEorZp zp s
  | .eorImm imm => Sys2Proof.Machine.execEorImm imm s
  | .eorAbs addr => Sys2Proof.Machine.execEorAbs addr s
  | .eorIzy zp => Sys2Proof.Machine.execEorIzy zp s
  | .eorZpx zp => Sys2Proof.Machine.execEorZpx zp s
  | .eorAby addr => Sys2Proof.Machine.execEorAby addr s
  | .eorAbx addr => Sys2Proof.Machine.execEorAbx addr s
  | .cmpIzx zp => Sys2Proof.Machine.execCmpIzx zp s
  | .cmpZp zp => Sys2Proof.Machine.execCmpZp zp s
  | .cmpImm imm => Sys2Proof.Machine.execCmpImm imm s
  | .cmpAbs addr => Sys2Proof.Machine.execCmpAbs addr s
  | .cmpIzy zp => Sys2Proof.Machine.execCmpIzy zp s
  | .cmpZpx zp => Sys2Proof.Machine.execCmpZpx zp s
  | .cmpAby addr => Sys2Proof.Machine.execCmpAby addr s
  | .cmpAbx addr => Sys2Proof.Machine.execCmpAbx addr s
  | .cpxImm imm => Sys2Proof.Machine.execCpxImm imm s
  | .cpxZp zp => Sys2Proof.Machine.execCpxZp zp s
  | .cpxAbs addr => Sys2Proof.Machine.execCpxAbs addr s
  | .cpyImm imm => Sys2Proof.Machine.execCpyImm imm s
  | .cpyZp zp => Sys2Proof.Machine.execCpyZp zp s
  | .cpyAbs addr => Sys2Proof.Machine.execCpyAbs addr s
  | .bitZp zp => Sys2Proof.Machine.execBitZp zp s
  | .bitAbs addr => Sys2Proof.Machine.execBitAbs addr s
  | .incZp zp => Sys2Proof.Machine.execIncZp zp s
  | .incAbs addr => Sys2Proof.Machine.execIncAbs addr s
  | .incZpx zp => Sys2Proof.Machine.execIncZpx zp s
  | .incAbx addr => Sys2Proof.Machine.execIncAbx addr s
  | .decZp zp => Sys2Proof.Machine.execDecZp zp s
  | .decAbs addr => Sys2Proof.Machine.execDecAbs addr s
  | .decZpx zp => Sys2Proof.Machine.execDecZpx zp s
  | .decAbx addr => Sys2Proof.Machine.execDecAbx addr s
  | .inx => Sys2Proof.Machine.execInx s
  | .iny => Sys2Proof.Machine.execIny s
  | .dex => Sys2Proof.Machine.execDex s
  | .dey => Sys2Proof.Machine.execDey s
  | .aslZp zp => Sys2Proof.Machine.execAslZp zp s
  | .aslAcc => Sys2Proof.Machine.execAslAcc s
  | .aslAbs addr => Sys2Proof.Machine.execAslAbs addr s
  | .aslZpx zp => Sys2Proof.Machine.execAslZpx zp s
  | .aslAbx addr => Sys2Proof.Machine.execAslAbx addr s
  | .lsrZp zp => Sys2Proof.Machine.execLsrZp zp s
  | .lsrAcc => Sys2Proof.Machine.execLsrAcc s
  | .lsrAbs addr => Sys2Proof.Machine.execLsrAbs addr s
  | .lsrZpx zp => Sys2Proof.Machine.execLsrZpx zp s
  | .lsrAbx addr => Sys2Proof.Machine.execLsrAbx addr s
  | .rolZp zp => Sys2Proof.Machine.execRolZp zp s
  | .rolAcc => Sys2Proof.Machine.execRolAcc s
  | .rolAbs addr => Sys2Proof.Machine.execRolAbs addr s
  | .rolZpx zp => Sys2Proof.Machine.execRolZpx zp s
  | .rolAbx addr => Sys2Proof.Machine.execRolAbx addr s
  | .rorZp zp => Sys2Proof.Machine.execRorZp zp s
  | .rorAcc => Sys2Proof.Machine.execRorAcc s
  | .rorAbs addr => Sys2Proof.Machine.execRorAbs addr s
  | .rorZpx zp => Sys2Proof.Machine.execRorZpx zp s
  | .rorAbx addr => Sys2Proof.Machine.execRorAbx addr s
  | .jmpAbs addr => Sys2Proof.Machine.execJmpAbs addr s
  | .jmpInd ptr => Sys2Proof.Machine.execJmpInd ptr s
  | .jsrAbs addr => Sys2Proof.Machine.execJsrAbs addr s
  | .rts => Sys2Proof.Machine.execRts s
  | .rti => Sys2Proof.Machine.execRti s
  | .brk => Sys2Proof.Machine.execBrk s
  | .bcc off => Sys2Proof.Machine.execBcc off s
  | .bcs off => Sys2Proof.Machine.execBcs off s
  | .beq off => Sys2Proof.Machine.execBeq off s
  | .bmi off => Sys2Proof.Machine.execBmi off s
  | .bne off => Sys2Proof.Machine.execBne off s
  | .bpl off => Sys2Proof.Machine.execBpl off s
  | .bvc off => Sys2Proof.Machine.execBvc off s
  | .bvs off => Sys2Proof.Machine.execBvs off s
  | .pha => Sys2Proof.Machine.execPha s
  | .php => Sys2Proof.Machine.execPhp s
  | .pla => Sys2Proof.Machine.execPla s
  | .plp => Sys2Proof.Machine.execPlp s
  | .clc => Sys2Proof.Machine.execClc s
  | .cld => Sys2Proof.Machine.execCld s
  | .cli => Sys2Proof.Machine.execCli s
  | .clv => Sys2Proof.Machine.execClv s
  | .sec => Sys2Proof.Machine.execSec s
  | .sed => Sys2Proof.Machine.execSed s
  | .sei => Sys2Proof.Machine.execSei s
  | .nop => Sys2Proof.Machine.execNop s
  | .nopZp04 zp => Sys2Proof.Machine.execNopZp04 zp s
  | .nopAbs addr => Sys2Proof.Machine.execNopAbs addr s
  | .nopZpx14 zp => Sys2Proof.Machine.execNopZpx14 zp s
  | .nop1A => Sys2Proof.Machine.execNop1A s
  | .nopAbx1C addr => Sys2Proof.Machine.execNopAbx1C addr s
  | .nopZpx34 zp => Sys2Proof.Machine.execNopZpx34 zp s
  | .nop3A => Sys2Proof.Machine.execNop3A s
  | .nopAbx3C addr => Sys2Proof.Machine.execNopAbx3C addr s
  | .nopZp44 zp => Sys2Proof.Machine.execNopZp44 zp s
  | .nopZpx54 zp => Sys2Proof.Machine.execNopZpx54 zp s
  | .nop5A => Sys2Proof.Machine.execNop5A s
  | .nopAbx5C addr => Sys2Proof.Machine.execNopAbx5C addr s
  | .nopZp64 zp => Sys2Proof.Machine.execNopZp64 zp s
  | .nopZpx74 zp => Sys2Proof.Machine.execNopZpx74 zp s
  | .nop7A => Sys2Proof.Machine.execNop7A s
  | .nopAbx7C addr => Sys2Proof.Machine.execNopAbx7C addr s
  | .nopImm80 imm => Sys2Proof.Machine.execNopImm80 imm s
  | .nopImm82 imm => Sys2Proof.Machine.execNopImm82 imm s
  | .nopImm89 imm => Sys2Proof.Machine.execNopImm89 imm s
  | .nopImmC2 imm => Sys2Proof.Machine.execNopImmC2 imm s
  | .nopZpxD4 zp => Sys2Proof.Machine.execNopZpxD4 zp s
  | .nopDA => Sys2Proof.Machine.execNopDA s
  | .nopAbxDC addr => Sys2Proof.Machine.execNopAbxDC addr s
  | .nopImmE2 imm => Sys2Proof.Machine.execNopImmE2 imm s
  | .nopZpxF4 zp => Sys2Proof.Machine.execNopZpxF4 zp s
  | .nopFA => Sys2Proof.Machine.execNopFA s
  | .nopAbxFC addr => Sys2Proof.Machine.execNopAbxFC addr s
  | .laxIzx zp => Sys2Proof.Machine.execLaxIzx zp s
  | .laxZp zp => Sys2Proof.Machine.execLaxZp zp s
  | .laxAbs addr => Sys2Proof.Machine.execLaxAbs addr s
  | .laxIzy zp => Sys2Proof.Machine.execLaxIzy zp s
  | .laxZpy zp => Sys2Proof.Machine.execLaxZpy zp s
  | .laxAby addr => Sys2Proof.Machine.execLaxAby addr s
  | .saxIzx zp => Sys2Proof.Machine.execSaxIzx zp s
  | .saxZp zp => Sys2Proof.Machine.execSaxZp zp s
  | .saxAbs addr => Sys2Proof.Machine.execSaxAbs addr s
  | .saxZpy zp => Sys2Proof.Machine.execSaxZpy zp s
  | .dcpIzx zp => Sys2Proof.Machine.execDcpIzx zp s
  | .dcpZp zp => Sys2Proof.Machine.execDcpZp zp s
  | .dcpAbs addr => Sys2Proof.Machine.execDcpAbs addr s
  | .dcpIzy zp => Sys2Proof.Machine.execDcpIzy zp s
  | .dcpZpx zp => Sys2Proof.Machine.execDcpZpx zp s
  | .dcpAby addr => Sys2Proof.Machine.execDcpAby addr s
  | .dcpAbx addr => Sys2Proof.Machine.execDcpAbx addr s
  | .isbIzx zp => Sys2Proof.Machine.execIsbIzx zp s
  | .isbZp zp => Sys2Proof.Machine.execIsbZp zp s
  | .isbAbs addr => Sys2Proof.Machine.execIsbAbs addr s
  | .isbIzy zp => Sys2Proof.Machine.execIsbIzy zp s
  | .isbZpx zp => Sys2Proof.Machine.execIsbZpx zp s
  | .isbAby addr => Sys2Proof.Machine.execIsbAby addr s
  | .isbAbx addr => Sys2Proof.Machine.execIsbAbx addr s
  | .sloIzx zp => Sys2Proof.Machine.execSloIzx zp s
  | .sloZp zp => Sys2Proof.Machine.execSloZp zp s
  | .sloAbs addr => Sys2Proof.Machine.execSloAbs addr s
  | .sloIzy zp => Sys2Proof.Machine.execSloIzy zp s
  | .sloZpx zp => Sys2Proof.Machine.execSloZpx zp s
  | .sloAby addr => Sys2Proof.Machine.execSloAby addr s
  | .sloAbx addr => Sys2Proof.Machine.execSloAbx addr s
  | .rlaIzx zp => Sys2Proof.Machine.execRlaIzx zp s
  | .rlaZp zp => Sys2Proof.Machine.execRlaZp zp s
  | .rlaAbs addr => Sys2Proof.Machine.execRlaAbs addr s
  | .rlaIzy zp => Sys2Proof.Machine.execRlaIzy zp s
  | .rlaZpx zp => Sys2Proof.Machine.execRlaZpx zp s
  | .rlaAby addr => Sys2Proof.Machine.execRlaAby addr s
  | .rlaAbx addr => Sys2Proof.Machine.execRlaAbx addr s
  | .sreIzx zp => Sys2Proof.Machine.execSreIzx zp s
  | .sreZp zp => Sys2Proof.Machine.execSreZp zp s
  | .sreAbs addr => Sys2Proof.Machine.execSreAbs addr s
  | .sreIzy zp => Sys2Proof.Machine.execSreIzy zp s
  | .sreZpx zp => Sys2Proof.Machine.execSreZpx zp s
  | .sreAby addr => Sys2Proof.Machine.execSreAby addr s
  | .sreAbx addr => Sys2Proof.Machine.execSreAbx addr s
  | .rraIzx zp => Sys2Proof.Machine.execRraIzx zp s
  | .rraZp zp => Sys2Proof.Machine.execRraZp zp s
  | .rraAbs addr => Sys2Proof.Machine.execRraAbs addr s
  | .rraIzy zp => Sys2Proof.Machine.execRraIzy zp s
  | .rraZpx zp => Sys2Proof.Machine.execRraZpx zp s
  | .rraAby addr => Sys2Proof.Machine.execRraAby addr s
  | .rraAbx addr => Sys2Proof.Machine.execRraAbx addr s
  | .ancImm0B imm => Sys2Proof.Machine.execAncImm0B imm s
  | .ancImm2B imm => Sys2Proof.Machine.execAncImm2B imm s
  | .alrImm imm => Sys2Proof.Machine.execAlrImm imm s
  | .arrImm imm => Sys2Proof.Machine.execArrImm imm s
  | .axsImm imm => Sys2Proof.Machine.execAxsImm imm s
  | .lasAby addr => Sys2Proof.Machine.execLasAby addr s
  | .xaaImm imm => Sys2Proof.Machine.execXaaImm imm s
  | .lxaImm imm => Sys2Proof.Machine.execLxaImm imm s
  | .ahxIzy zp => Sys2Proof.Machine.execAhxIzy zp s
  | .ahxAby addr => Sys2Proof.Machine.execAhxAby addr s
  | .shyAbx addr => Sys2Proof.Machine.execShyAbx addr s
  | .shxAby addr => Sys2Proof.Machine.execShxAby addr s
  | .tasAby addr => Sys2Proof.Machine.execTasAby addr s
  | .kil02 => Sys2Proof.Machine.execKil02 s
  | .kil12 => Sys2Proof.Machine.execKil12 s
  | .kil22 => Sys2Proof.Machine.execKil22 s
  | .kil32 => Sys2Proof.Machine.execKil32 s
  | .kil42 => Sys2Proof.Machine.execKil42 s
  | .kil52 => Sys2Proof.Machine.execKil52 s
  | .kil62 => Sys2Proof.Machine.execKil62 s
  | .kil72 => Sys2Proof.Machine.execKil72 s
  | .kil92 => Sys2Proof.Machine.execKil92 s
  | .kilB2 => Sys2Proof.Machine.execKilB2 s
  | .kilD2 => Sys2Proof.Machine.execKilD2 s
  | .kilF2 => Sys2Proof.Machine.execKilF2 s

end Sys2Proof.Machine
end

