-- ==== Sys2Proof/Machine/PpuBackground.lean ====
section
/-! DEFINITION. The PPU's background pipeline and scroll updates (47_ppu_timing_background.md R310 to R324). -/

namespace Sys2Proof.Machine

/-- `v` or `t` as a 16-bit number. -/
def vramWord (v : VramAddr) : Word := v.zeroExtend 16

/-- The low byte of a shift register replaced, its high byte kept (R311). -/
def reloadLow (reg : BitVec 16) (b : Byte) : BitVec 16 := (reg &&& 0xFF00#16) ||| zext16 b

/-- One bit of the palette number replicated over the tile's eight pixels (R311). -/
def replicateBit (on : Bool) : Byte := if on then 0xFF#8 else 0x00#8

/-- `ReloadShifters()` (R311). -/
def reloadShifters (s : State) : State :=
  s.setPpu { s.ppu with
    bgPatLo := reloadLow s.ppu.bgPatLo s.ppu.patLo
    bgPatHi := reloadLow s.ppu.bgPatHi s.ppu.patHi
    bgAtLo := reloadLow s.ppu.bgAtLo (replicateBit (s.ppu.atBits.getLsbD 0))
    bgAtHi := reloadLow s.ppu.bgAtHi (replicateBit (s.ppu.atBits.getLsbD 1)) }

/-- `ShiftBackground()` (R312): a 0 enters at bit 0. -/
def shiftBackground (s : State) : State :=
  s.setPpu { s.ppu with
    bgPatLo := s.ppu.bgPatLo <<< 1
    bgPatHi := s.ppu.bgPatHi <<< 1
    bgAtLo := s.ppu.bgAtLo <<< 1
    bgAtHi := s.ppu.bgAtHi <<< 1 }

/-- The nametable address of `v` (R313). -/
def nametableAddress (v : VramAddr) : Word := 0x2000#16 ||| (vramWord v &&& 0x0FFF#16)

/-- `FetchNametable()` (R313). -/
def fetchNametable (s : State) : State :=
  s.setPpu { s.ppu with ntByte := ppuRead s (nametableAddress s.ppu.v) }

/-- The attribute address of `v` (R314). -/
def attributeAddress (v : VramAddr) : Word :=
  0x23C0#16 ||| (vramWord v &&& 0x0C00#16) ||| ((vramWord v >>> 4) &&& 0x38#16) ||| ((vramWord v >>> 2) &&& 0x07#16)

/-- The shift that selects the quadrant's field of the attribute byte (R314). -/
def attributeShift (v : VramAddr) : Nat := (((vramWord v >>> 4) &&& 0x04#16) ||| (vramWord v &&& 0x02#16)).toNat

/-- `FetchAttribute()` (R314). -/
def fetchAttribute (s : State) : State :=
  s.setPpu { s.ppu with
    atBits := (ppuRead s (attributeAddress s.ppu.v) >>> attributeShift s.ppu.v).setWidth 2 }

/-- `BgPatternAddr()` (R316): the table of `ctrl` bit 4, the tile `ntByte`, the row fine Y. -/
def bgPatternAddress (q : Ppu) : Word :=
  (if bit q.ctrl 4 then 0x1000#16 else 0x0000#16) + zext16 q.ntByte * 16#16 + (vramWord q.v >>> 12)

/-- `FetchPatternLow()` (R315). -/
def fetchPatternLow (s : State) : State :=
  s.setPpu { s.ppu with patLo := ppuRead s (bgPatternAddress s.ppu) }

/-- `FetchPatternHigh()` (R317). -/
def fetchPatternHigh (s : State) : State :=
  s.setPpu { s.ppu with patHi := ppuRead s (bgPatternAddress s.ppu + 8#16) }

/-- `IncCoarseX()` on `v` (R320): 31 wraps to 0 and toggles the horizontal nametable bit. -/
def incCoarseX (v : VramAddr) : VramAddr :=
  if v &&& 0x001F#15 = 31#15 then (v &&& 0x7FE0#15) ^^^ 0x0400#15 else v + 1#15

/-- `IncY()` on `v` (R321): fine Y, then coarse Y with the wrap at 29 that toggles and the wrap at 31 that does not. -/
def incY (v : VramAddr) : VramAddr :=
  if v &&& 0x7000#15 ≠ 0x7000#15 then v + 0x1000#15
  else
    let v := v &&& 0x0FFF#15
    let y := (v >>> 5) &&& 0x1F#15
    if y = 29#15 then (v ^^^ 0x0800#15) &&& 0x7C1F#15
    else if y = 31#15 then v &&& 0x7C1F#15
    else (v &&& 0x7C1F#15) ||| ((y + 1#15) <<< 5)

/-- `CopyHorizontal()` (R322): coarse X and the horizontal nametable bit of `t`. -/
def copyHorizontal (v t : VramAddr) : VramAddr := (v &&& 0x7BE0#15) ||| (t &&& 0x041F#15)

/-- `CopyVertical()` (R323): fine Y, coarse Y and the vertical nametable bit of `t`. -/
def copyVertical (v t : VramAddr) : VramAddr := (v &&& 0x041F#15) ||| (t &&& 0x7BE0#15)

/-- The state with `v` replaced. -/
def State.setV (s : State) (v : VramAddr) : State := s.setPpu { s.ppu with v := v }

/-- The fetch that a dot of a fetch window makes, by the dot mod 8 (R310), with the coarse X increment after the fourth (R302). -/
def windowFetch (phase : Nat) (s : State) : State :=
  match phase with
  | 2 => fetchNametable s
  | 4 => fetchAttribute s
  | 6 => fetchPatternLow s
  | 0 =>
    let s := fetchPatternHigh s
    s.setV (incCoarseX s.ppu.v)
  | _ => s

/-- What a dot of a fetch window does (R302, R310): reload at phase 1, shift, fetch. -/
def windowStep (d : Nat) (s : State) : State :=
  let s := if d % 8 = 1 then reloadShifters s else s
  windowFetch (d % 8) (shiftBackground s)

/-- Whether a dot lies in a fetch window (R302). -/
def inWindow (d : Nat) : Bool := (decide (1 ≤ d) && decide (d ≤ 256)) || (decide (321 ≤ d) && decide (d ≤ 336))

/-- The scroll updates of a dot (R302 step 2, R321 to R323). -/
def scrollStep (line d : Nat) (s : State) : State :=
  let s := if d = 256 then s.setV (incY s.ppu.v) else s
  let s := if d = 257 then s.setV (copyHorizontal s.ppu.v s.ppu.t) else s
  if line = 261 ∧ 280 ≤ d ∧ d ≤ 304 then s.setV (copyVertical s.ppu.v s.ppu.t) else s

/-- Step 2 of a dot on a render line with the gate open (R302). -/
def backgroundStep (line d : Nat) (s : State) : State :=
  scrollStep line d (if inWindow d then windowStep d s else s)

end Sys2Proof.Machine
end

