-- ==== Sys2Proof/Machine/PpuSprites.lean ====
section
/-! DEFINITION. The PPU's sprite pipeline: secondary OAM clear, evaluation and fetch (48_ppu_sprites_pixels.md R340 to R352). -/

namespace Sys2Proof.Machine

/-- A byte of primary OAM (R36). -/
def Ppu.oamByte (q : Ppu) (i : Nat) : Byte := Memory.read .oam q.oam i

/-- A byte of secondary OAM (R37). -/
def Ppu.secOamByte (q : Ppu) (i : Nat) : Byte := Memory.read .secOam q.secOam i

/-- The PPU with one byte of secondary OAM replaced. -/
def Ppu.setSecOam (q : Ppu) (i : Nat) (b : Byte) : Ppu := { q with secOam := Memory.write .secOam q.secOam i b }

/-- `ClearSecOam(d)` (R341): one byte per two dots. -/
def clearSecOam (d : Nat) (q : Ppu) : Ppu := q.setSecOam ((d - 1) / 2) 0xFF#8

/-- `EvalInit()` (R342). -/
def evalInit (q : Ppu) : Ppu := { q with evalState := .copyY, evalN := 0, secSlot := 0, spriteCount := 0 }

/-- The sprite height: 16 rows with `ctrl` bit 5, else 8 (R344). -/
def spriteHeight (q : Ppu) : Nat := if bit q.ctrl 5 then 16 else 8

/-- `InRange(y, s)` on natural numbers (R344). -/
def inRange (q : Ppu) (y line : Nat) : Bool := decide (y ≤ line) && decide (line < y + spriteHeight q)

/-- `EvalStep(s)` (R343, R345): one transition of the evaluator. -/
def evalStep (line : Nat) (q : Ppu) : Ppu :=
  match q.evalState with
  | .done => q
  | .copyY =>
    if q.evalN = 64 then { q with evalState := .done }
    else
      let y := q.oamByte (4 * q.evalN)
      if inRange q y.toNat line then { q.setSecOam (4 * q.secSlot) y with evalState := .copyTile }
      else { q with evalN := q.evalN + 1 }
  | .copyTile =>
    { q.setSecOam (4 * q.secSlot + 1) (q.oamByte (4 * q.evalN + 1)) with evalState := .copyAttr }
  | .copyAttr =>
    { q.setSecOam (4 * q.secSlot + 2) (q.oamByte (4 * q.evalN + 2)) with evalState := .copyX }
  | .copyX =>
    let q := q.setSecOam (4 * q.secSlot + 3) (q.oamByte (4 * q.evalN + 3))
    let q := { q with spriteCount := q.spriteCount + 1, evalN := q.evalN + 1 }
    if q.spriteCount = 8 then { q with secSlot := 0, evalState := .done }
    else { q with secSlot := q.secSlot + 1, evalState := .copyY }

/-- `SpritePatternAddr(tile, attr, row)` (R348) over the integers: an out-of-range row is used as written, and the address is reduced
mod 65536 like every address (R68; log entry 8). -/
def spritePatternAddress (q : Ppu) (tile attr : Byte) (row : Int) : Word :=
  let h : Int := spriteHeight q
  let row := if bit attr 7 then h - 1 - row else row
  if spriteHeight q = 8 then
    toAddress ((if bit q.ctrl 3 then 0x1000 else 0x0000) + tile.toNat * 16 + row)
  else
    let t : Int := (tile &&& 0xFE#8).toNat + (if 8 ≤ row then 1 else 0)
    toAddress ((tile &&& 0x01#8).toNat * 0x1000 + t * 16 + row % 8)

/-- The pixel value of column `j` of a sprite row (R347, R349). -/
def spritePixelValue (attr lo hi : Byte) (j : Nat) : BitVec 2 :=
  let b := if bit attr 6 then j else 7 - j
  BitVec.ofBool (bit hi b) ++ BitVec.ofBool (bit lo b)

/-- The entry a sprite pixel registers: `((attr & 3) << 2) | px` and the priority bit (R347, R349). -/
def spriteEntry (attr : Byte) (px : BitVec 2) : SpritePixel :=
  { colour := attr.setWidth 2 ++ px, behind := bit attr 5 }

/-- The registration of column `j` of a sprite at `x0` (R347, R350): not transparent, at most 255, and nothing there yet. -/
def registerPixel (attr lo hi x0 : Byte) (line : List (Nat × Option SpritePixel)) (j : Nat) :
    List (Nat × Option SpritePixel) :=
  let px := spritePixelValue attr lo hi j
  let x := x0.toNat + j
  if px ≠ 0#2 ∧ x ≤ 255 ∧ spriteLineAt line x = none then Store.set none line x (some (spriteEntry attr px)) else line

/-- `SpriteFetch(k, s)` (R347): a filled slot's two pattern bytes expanded into the line buffer; an empty slot does nothing. -/
def spriteFetch (k line : Nat) (s : State) : State :=
  if k < s.ppu.spriteCount then
    let q := s.ppu
    let attr := q.secOamByte (4 * k + 2)
    let address := spritePatternAddress q (q.secOamByte (4 * k + 1)) attr ((line : Int) - (q.secOamByte (4 * k)).toNat)
    let lo := ppuRead s address
    let hi := ppuRead s (address + 8#16)
    s.setPpu { q with
      spriteLine := (List.range 8).foldl (registerPixel attr lo hi (q.secOamByte (4 * k + 3))) q.spriteLine }
  else s

/-- The sprite work of a visible line (R340): the clearing, the evaluation and the fetches, by dot. -/
def visibleSpriteStep (line d : Nat) (s : State) : State :=
  let s := if 1 ≤ d ∧ d ≤ 64 then s.setPpu (clearSecOam d s.ppu) else s
  let s := if d = 65 then s.setPpu (evalInit s.ppu) else s
  let s := if 65 ≤ d ∧ d ≤ 256 then s.setPpu (evalStep line s.ppu) else s
  if 264 ≤ d ∧ d ≤ 320 ∧ d % 8 = 0 then spriteFetch ((d - 264) / 8) line s else s

/-- `SpriteDot(s, d)` (R340), under the rendering gate: the line buffer is cleared at dot 257 of every render line. -/
def spriteStep (line d : Nat) (s : State) : State :=
  let s := if d = 257 ∧ (line ≤ 239 ∨ line = 261) then s.setPpu { s.ppu with spriteLine := [] } else s
  if line ≤ 239 then visibleSpriteStep line d s else s

end Sys2Proof.Machine
end

