-- ==== Sys2Proof/Machine/PpuPixels.lean ====
section
/-! DEFINITION. The pixel compositor (48_ppu_sprites_pixels.md R354 to R360). -/

namespace Sys2Proof.Machine

/-- `BackgroundIndex()` (R355): the top bits of the four shift registers; 0 with the background disabled. -/
def backgroundIndex (q : Ppu) : BitVec 4 :=
  if bit q.mask 3 then
    BitVec.ofBool (q.bgAtHi.getLsbD 15) ++ BitVec.ofBool (q.bgAtLo.getLsbD 15) ++
      BitVec.ofBool (q.bgPatHi.getLsbD 15) ++ BitVec.ofBool (q.bgPatLo.getLsbD 15)
  else 0#4

/-- `SpriteAt(x)` (R356): the registered sprite pixel; empty with the sprites disabled. -/
def spriteAt (q : Ppu) (x : Nat) : Option SpritePixel :=
  if bit q.mask 4 then spriteLineAt q.spriteLine x else none

/-- "index % 4 == 0 means transparent" (R357). -/
def opaquePixel (index : BitVec 4) : Bool := index.setWidth 2 != 0#2

/-- The palette address of a background index: 0x3F00 plus the index (R358). -/
def backgroundAddress (bg : BitVec 4) : Word := 0x3F00#16 + bg.zeroExtend 16

/-- The palette address of a sprite colour: 0x3F10 plus the colour (R358). -/
def spriteAddress (colour : BitVec 4) : Word := 0x3F10#16 + colour.zeroExtend 16

/-- `Choose(bg, sp)` (R357, R358): the palette address of the pixel. -/
def choose (bg : BitVec 4) (sp : Option SpritePixel) : Word :=
  match opaquePixel bg, sp with
  | false, none => 0x3F00#16
  | false, some e => if opaquePixel e.colour then spriteAddress e.colour else 0x3F00#16
  | true, none => backgroundAddress bg
  | true, some e => if opaquePixel e.colour && !e.behind then spriteAddress e.colour else backgroundAddress bg

/-- The colour index of the pixel at column `x`: the low six bits of the palette byte (R354, R359). -/
def pixelColour (s : State) (x : Nat) : BitVec 6 :=
  (ppuRead s (choose (backgroundIndex s.ppu) (spriteAt s.ppu x))).setWidth 6

/-- An output event appended to the trace (R331, R360; log entry 6). -/
def State.emit (s : State) (e : Event) : State := { s with events := e :: s.events }

/-- `EmitPixel(x, y)` (R354): one `renderPixel` event. -/
def emitPixel (x y : Nat) (s : State) : State := s.emit (.pixel x y (pixelColour s x))

/-- The colour that the renderer receives with a pixel event: `PALETTE_RGB[c & 0x3F]` (R359). -/
def Event.rgb : Event → Option Rgb
  | .pixel _ _ c => some (Config.paletteRgb c)
  | .frame => none

end Sys2Proof.Machine
end

