-- ==== Sys2Proof/Machine/PpuDot.lean ====
section
/-! DEFINITION. One PPU dot: position, regions, the order of the sub-steps, and the single-dot events
(47_ppu_timing_background.md R300 to R306, R328 to R331). -/

namespace Sys2Proof.Machine

/-- A render scanline: 0 to 239 or the pre-render line 261 (R300). -/
def renderLine (line : Nat) : Bool := decide (line ≤ 239) || line == 261

/-- `rendering` (R40, R303): show-background or show-sprites set. -/
def rendering (q : Ppu) : Bool := q.mask &&& 0x18#8 != 0x00#8

/-- The gate of R303, evaluated at this dot. -/
def gate (s : State) : Bool := rendering s.ppu || !s.params.ppuGateOnMask

/-- `VblankStart()` (R328). -/
def vblankStart (s : State) : State :=
  { s.setPpu { s.ppu with status := s.ppu.status ||| 0x80#8 } with nmiLine := s.nmiLine || bit s.ppu.ctrl 7 }

/-- `VblankEnd()` (R329): the interrupt line is not cleared. -/
def vblankEnd (s : State) : State := s.setPpu { s.ppu with status := s.ppu.status &&& 0x7F#8 }

/-- Step 4 of a dot: the single-dot events (R302). -/
def dotEvents (line d : Nat) (s : State) : State :=
  let s := if line = 240 ∧ d = 0 then s.emit .frame else s
  let s := if line = 241 ∧ d = 1 then vblankStart s else s
  if line = 261 ∧ d = 1 then vblankEnd s else s

/-- `AdvancePosition()` (R305), with the odd-frame skip (R306). -/
def advancePosition (q : Ppu) : Ppu :=
  let skip := if q.scanline = 261 ∧ q.dot = 340 ∧ q.frame % 2 = 1 then 1 else 0
  let n := q.dot + 1 + skip
  if 341 ≤ n then
    if q.scanline = 261 then { q with dot := n - 341, scanline := 0, frame := q.frame + 1 }
    else { q with dot := n - 341, scanline := q.scanline + 1 }
  else { q with dot := n }

/-- `PpuDot()` (R302): the pixel, the background pipeline, the sprite pipeline, the events, the advance. -/
def ppuDot (s : State) : State :=
  let line := s.ppu.scanline
  let d := s.ppu.dot
  let s := if line ≤ 239 ∧ 1 ≤ d ∧ d ≤ 256 then emitPixel (d - 1) line s else s
  let s := if renderLine line && gate s then backgroundStep line d s else s
  let s := if gate s then spriteStep line d s else s
  let s := dotEvents line d s
  s.setPpu (advancePosition s.ppu)

/-- The three dots of a machine cycle (R430). -/
def threeDots (s : State) : State := ppuDot (ppuDot (ppuDot s))

end Sys2Proof.Machine
end

