-- ==== Sys2Proof/Machine/Reset.lean ====
section
/-! DEFINITION. The reset sequence, power-up and the host's inputs (70_reset_and_hazards.md R450 to R454, 60_exceptions.md R428). -/

namespace Sys2Proof.Machine

/-- The part of the reset sequence that the PPU sees (R452): `status`, `oamAddr`, `v` and the memories are kept. -/
def Ppu.afterReset (q : Ppu) : Ppu :=
  { q with
    ctrl := 0x00#8, mask := 0x00#8, t := 0x0000#15, w := false, readBuffer := 0x00#8
    scanline := 0, dot := 0, frame := 0
    ntByte := 0x00#8, atBits := 0#2, patLo := 0x00#8, patHi := 0x00#8
    bgPatLo := 0x0000#16, bgPatHi := 0x0000#16, bgAtLo := 0x0000#16, bgAtHi := 0x0000#16
    evalState := .copyY, evalN := 0, secSlot := 0, spriteCount := 0
    spriteLine := [] }

/-- `Reset()` (R452): nothing is pushed; the stall is set, not increased. -/
def resetSequence (s : State) : State :=
  let s := s.setSp (s.cpu.sp - 3#8)
  let s := s.setFlag .i true
  let (target, s) := read16 resetVector s
  let s := s.setPc target
  let s := { s with cpu := { s.cpu with stall := 7 }, nmiLine := false }
  s.setPpu s.ppu.afterReset

/-- The cartridge of an image with the page count of its header (R85). -/
def cartridgeOf (image : List Byte) : Cartridge :=
  let pages : PrgPages := if imagePrgPages image = 1 then .one else .two
  { pages := pages
    prg := Memory.ofBytes pages.space 0 (imagePrg image)
    chr := Memory.ofBytes .chr 0 (imageChr image) }

/-- The assignments of the power-up sequence (R450), before its reset. -/
def poweredUp (params : Params) (cart : Cartridge) : State where
  cpu := { a := 0x00#8, x := 0x00#8, y := 0x00#8, sp := 0x00#8, pc := 0x0000#16, p := 0x24#8, stall := 0, cyc := 0 }
  ppu := { Ppu.reset with palette := Memory.ofBytes .palette 0 params.palettePowerUp.toList }
  nmiLine := false
  ram := []
  pad1 := Controller.reset
  pad2 := Controller.reset
  cart := cart
  params := params
  inputs := []
  events := []

/-- `PowerUp(image)` (R450): an image that is not admitted is refused (R87). -/
def powerUp (params : Params) (image : List Byte) : Result :=
  if imageWellFormed image then .next (resetSequence (poweredUp params (cartridgeOf image)))
  else .refused .imageNotAdmitted

/-- `PowerUpAt(image, pc)` (R454): the PC is overwritten after power-up. -/
def powerUpAt (params : Params) (image : List Byte) (pc : Word) : Result :=
  match powerUp params image with
  | .next s => .next (s.setPc pc)
  | .fault f => .fault f
  | .refused r => .refused r

/-- The host's input of this machine cycle: the button levels (R428), and a reset event, which falls between two machine cycles
(R452). With no input listed the levels stay and no reset falls here (log entry 5). -/
def takeInput (s : State) : State :=
  match s.inputs with
  | [] => s
  | i :: rest =>
    let s := { s with
      inputs := rest
      pad1 := { s.pad1 with buttons := i.buttons1 }
      pad2 := { s.pad2 with buttons := i.buttons2 } }
    if i.reset then resetSequence s else s

/-- The host inputs with the reset event of the coming cycle taken out. -/
def withoutComingReset : List HostInput → List HostInput
  | [] => []
  | i :: rest => { i with reset := false } :: rest

end Sys2Proof.Machine
end

