-- ==== Sys2Proof/Machine/Cycle.lean ====
section
/-! DEFINITION. The instruction fetch, the CPU cycle and the machine cycle (40_cpu_step_and_addressing.md R130 to R134,
60_exceptions.md R430), and the placing of an instruction's bytes where the CPU fetches. -/

namespace Sys2Proof.Machine

/-- The bytes of the instruction at the PC, each one an ordinary bus read with its side effects (R131, R134), as an instruction. The
PC itself is advanced by `execute` (log entry 14). -/
def fetch (s : State) : Instr × State :=
  let (opcode, s1) := memRead s.cpu.pc s
  match shapeOf opcode with
  | .alone i => (i, s1)
  | .withByte f =>
    let (b, s2) := memRead (s.cpu.pc + 1#16) s1
    (f b, s2)
  | .withWord f =>
    let (lo, s2) := memRead (s.cpu.pc + 1#16) s1
    let (hi, s3) := memRead (s.cpu.pc + 2#16) s2
    (f (Word.ofBytes hi lo), s3)

/-- `ExecuteInstruction()` (R131): fetch, then the instruction's meaning. -/
def executeInstruction (s : State) : Result :=
  let (i, s) := fetch s
  exec i s

/-- `cyc <- cyc + 1` (R28, R130). -/
def State.countCycle (s : State) : State := { s with cpu := { s.cpu with cyc := s.cpu.cyc + 1 } }

/-- The end of a machine cycle: the cycle count of the CPU step, then the three dots (R130, R430). -/
def finishCycle (s : State) : State := threeDots s.countCycle

/-- The CPU's branch of a cycle (R130): pay stall, or enter the NMI, or execute one instruction. -/
def cpuAction (s : State) : Result :=
  if 0 < s.cpu.stall then .next { s with cpu := { s.cpu with stall := s.cpu.stall - 1 } }
  else if s.nmiLine then
    match nmiEntry s with
    | .error f => .fault f
    | .ok s => .next s
  else executeInstruction s

/-- `MachineCycle()` (R430): the CPU cycle, then three dots; after a fault the dots do not run. -/
def machineCycle (s : State) : Result :=
  match cpuAction s with
  | .next s => .next (finishCycle s)
  | .fault f => .fault f
  | .refused r => .refused r

/-- Whether an address is backed by storage that a program can be placed in: work RAM or program ROM (R60). -/
def isStorage (addr : Word) : Bool :=
  match cpuDecode addr with
  | .ram _ | .prg _ => true
  | .ppuPort _ | .oamDma | .audio | .pad1 | .pad2 | .expansion => false

/-- The state with a byte stored behind a CPU address: in work RAM, or in the cartridge's program ROM as a loader does (log entry 3). -/
def placeByte (addr : Word) (b : Byte) (s : State) : State :=
  match cpuDecode addr with
  | .ram i => { s with ram := Memory.write .ram s.ram i b }
  | .prg i =>
    { s with cart := { s.cart with prg := Memory.write s.cart.pages.space s.cart.prg (i % s.cart.pages.bytes) b } }
  | .ppuPort _ | .oamDma | .audio | .pad1 | .pad2 | .expansion => s

/-- The state with bytes stored at ascending addresses, each address wrapping by itself. -/
def placeBytes : Word → List Byte → State → State
  | _, [], s => s
  | addr, b :: rest, s => placeBytes (addr + 1#16) rest (placeByte addr b s)

/-- Where a program's next instruction can be placed: at the PC if the longest instruction lies in storage there, else at 0x8000. -/
def placingAddress (s : State) : Word :=
  let pc := s.cpu.pc
  if isStorage pc && isStorage (pc + 1#16) && isStorage (pc + 2#16) then pc else 0x8000#16

/-- The state about to execute the instruction of some bytes: no stall left, no interrupt pending, no reset event coming, the PC at
the placed bytes (log entry 3). -/
def aboutToExecute (bytes : List Byte) (s : State) : State :=
  let addr := placingAddress s
  let s := placeBytes addr bytes s
  { s with
    cpu := { s.cpu with pc := addr, stall := 0 }
    nmiLine := false
    inputs := withoutComingReset s.inputs }

end Sys2Proof.Machine
end

