-- ==== Sys2Proof/Machine/Step.lean ====
section
/-! DEFINITION. One step of the machine: the host's input, then one machine cycle (60_exceptions.md R430, R432). -/

namespace Sys2Proof.Machine

/-- One step: the host input of this machine cycle (R428, R452), then `MachineCycle()` (R430). -/
def step (s : State) : Host.Outcome State Fault Refusal := machineCycle (takeInput s)

/-- The state whose very next step runs the instruction of a table word: its bytes placed where the CPU fetches (log entry 3). -/
def State.withFetchWord (s : State) (nbits w : Nat) : State := aboutToExecute (tableBytes nbits w) s

end Sys2Proof.Machine
end

