-- ==== Sys2Proof/Machine/Trace.lean ====
section
/-! DEFINITION. What the trace observer receives for each retired instruction (60_exceptions.md R440, R409): an observation of the
state, which changes nothing. -/

namespace Sys2Proof.Machine

/-- The observable tuple of a retired instruction (R440): the registers and the PPU position are those at the start of the CPU cycle
that executes it, before the fetch. -/
structure TraceRecord where
  pc0 : Word
  opcode : Byte
  bytes : List Byte
  mnemonic : Mnemonic
  official : Bool
  operand : Resolved
  a : Byte
  x : Byte
  y : Byte
  p : Byte
  sp : Byte
  scanline : Nat
  dot : Nat
  cyc : Nat
  deriving DecidableEq, Repr

/-- The trace tuple of the instruction that the machine cycle at this state retires: the one it executes to a next state. None in a
stall cycle, at an NMI entry (R409) and for an instruction that ends in a fault, which retires nothing (R440, R415). -/
def traceRecord (s : State) : Option TraceRecord :=
  let s := takeInput s
  if 0 < s.cpu.stall ∨ s.nmiLine = true then none
  else
    let (i, s1) := fetch s
    match exec i s1 with
    | .next _ =>
      let ops := (resolve i.operand (s1.setPc (nextPc i s1))).1
      some
        { pc0 := s.cpu.pc, opcode := i.row.opcode, bytes := ops.bytes, mnemonic := i.row.mnemonic, official := i.row.official
          operand := ops.operand, a := s.cpu.a, x := s.cpu.x, y := s.cpu.y, p := s.cpu.p, sp := s.cpu.sp
          scanline := s.ppu.scanline, dot := s.ppu.dot, cyc := s.cpu.cyc }
    | .fault _ | .refused _ => none

end Sys2Proof.Machine
end

