-- ==== Sys2Proof/Safety.lean ====
section
/-! DEFINITION. The terms that statements about the machine are written in: the invariant of a running machine, the operand and the
addresses an instruction writes, and the shape "completes with these registers and flags". -/

namespace Sys2Proof.Machine

/-- The reserved bits of the status byte: "bit 5 is 1 and bit 4 is 0" (R26). -/
abbrev Cpu.reservedBits (c : Cpu) : Prop := getFlag c.p .u = true ∧ getFlag c.p .b = false

/-- Only bit 7 of the PPU status byte is ever set (R41). -/
abbrev Ppu.statusBits (q : Ppu) : Prop := q.status &&& 0x7F#8 = 0x00#8

/-- The position lies in the 262 by 341 grid (R47). -/
abbrev Ppu.inGrid (q : Ppu) : Prop := q.scanline ≤ 261 ∧ q.dot ≤ 340

/-- The sprite evaluator's counters stay in their ranges and agree (R51, R343). -/
abbrev Ppu.evalFits (q : Ppu) : Prop :=
  q.evalN ≤ 64 ∧ q.secSlot ≤ 7 ∧ q.spriteCount ≤ 8 ∧
    (q.evalState ≠ .done → q.secSlot = q.spriteCount ∧ q.spriteCount ≤ 7) ∧
    (q.evalState ≠ .done → q.evalState ≠ .copyY → q.evalN < 64)

/-- Nothing transparent is registered in the sprite line buffer (R350, R52). -/
abbrev Ppu.lineOpaque (q : Ppu) : Prop :=
  ∀ e ∈ q.spriteLine, e.2.all (fun px => opaquePixel px.colour) = true

/-- The memories behind the PPU and the sprite line buffer are in canonical form (log entry 4). -/
abbrev Ppu.memoriesWf (q : Ppu) : Prop :=
  Memory.wf .vram q.vram ∧ Memory.wf .palette q.palette ∧ Memory.wf .oam q.oam ∧ Memory.wf .secOam q.secOam ∧
    spriteLineWf q.spriteLine

/-- The cartridge's memories are in canonical form. -/
abbrev Cartridge.wf (c : Cartridge) : Prop := Memory.wf c.pages.space c.prg ∧ Memory.wf .chr c.chr

/-- A controller's shift index is at most 8 (R53). -/
abbrev Controller.shiftFits (c : Controller) : Prop := c.shift ≤ 8

/-- The PPU's part of the invariant. -/
abbrev Ppu.Inv (q : Ppu) : Prop := q.statusBits ∧ q.inGrid ∧ q.evalFits ∧ q.lineOpaque ∧ q.memoriesWf

/-- The invariant of the machine: what holds right after reset and after every step. -/
abbrev State.Inv (s : State) : Prop :=
  s.cpu.reservedBits ∧ s.ppu.Inv ∧ Memory.wf .ram s.ram ∧ s.cart.wf ∧ s.pad1.shiftFits ∧ s.pad2.shiftFits

/-- The `Operands` record of an instruction executed at a state (R30, R131). -/
def operandsAt (i : Instr) (s : State) : Operands := (resolve i.operand (s.setPc (nextPc i s))).1

/-- The state after the resolver: the PC after the instruction's bytes, and the side effects of the pointer reads. -/
def resolvedAt (i : Instr) (s : State) : State := (resolve i.operand (s.setPc (nextPc i s))).2

/-- The operand value `M` (R153), for an instruction that has one. -/
def operandValueAt (i : Instr) (s : State) : Byte :=
  match (operandsAt i s).operand with
  | .value b => b
  | .address ea => (memRead ea (resolvedAt i s)).1
  | .none => 0x00#8

/-- The state after the operand value is read. -/
def operandReadAt (i : Instr) (s : State) : State :=
  match (operandsAt i s).operand with
  | .address ea => (memRead ea (resolvedAt i s)).2
  | .value _ | .none => resolvedAt i s

/-- An instruction completes: its next state is `w` with the registers `c`, the stall grown by the cost less one (R156), and each
flag either the named value or the one it had before. -/
def CompletesWith (i : Instr) (s w : State) (c : Cpu) (extra : Nat) (flags : Flag → Option Bool) : Prop :=
  ∃ p, exec i s = .next { w with cpu := { c with p := p, stall := w.cpu.stall + (cost i.row (operandsAt i s) extra - 1) } } ∧
    ∀ f, getFlag p f = (flags f).getD (getFlag s.cpu.p f)

/-- The CPU after the bytes of an instruction are fetched and nothing else is done. -/
def fetchedCpu (i : Instr) (s : State) : Cpu := { s.cpu with pc := nextPc i s }

/-- An instruction writes the byte `b` at `addr`, from the state `before`, and completes: with the state that the write leaves, or with
the fault that the write raises; under `ROM_WRITE_POLICY = ignore` no write raises one. -/
def CompletesStoring (i : Instr) (s before : State) (addr : Word) (b : Byte) (c : Cpu) (flags : Flag → Option Bool) : Prop :=
  (∀ t, memWrite addr b before = .ok t → CompletesWith i s t c 0 flags) ∧
    (∀ f, memWrite addr b before = .error f → exec i s = .fault f) ∧
    (s.params.romWritePolicy = .ignore → ∃ t, memWrite addr b before = .ok t ∧ CompletesWith i s t c 0 flags)

/-- No flag is written. -/
def noFlags : Flag → Option Bool := fun _ => none

/-- Z and N of a result byte (R165). -/
def znOf (r : Byte) : Flag → Option Bool
  | .z => some (r == 0x00#8)
  | .n => some (bit r 7)
  | .c | .i | .d | .b | .u | .v => none

/-- Z and N of a result byte, and a carry. -/
def cznOf (carry : Bool) (r : Byte) : Flag → Option Bool
  | .c => some carry
  | .z => some (r == 0x00#8)
  | .n => some (bit r 7)
  | .i | .d | .b | .u | .v => none

/-- One flag written. -/
def onlyFlag (g : Flag) (on : Bool) : Flag → Option Bool := fun f => if f = g then some on else none

/-- The flags of `Compare(r, m)` (R197). -/
def cmpOf (r m : Byte) : Flag → Option Bool
  | .c => some (decide (m.toNat ≤ r.toNat))
  | .z => some (decide (r = m))
  | .n => some (bit (r - m) 7)
  | .i | .d | .b | .u | .v => none

/-- The sum byte of `A + m + c` (R190). -/
def sumOf (a m : Byte) (c : Bool) : Byte := BitVec.ofNat 8 (a.toNat + m.toNat + c.toNat)

/-- The flags of `A + m + c` (R190): C above 255, V the exclusive or of the carries out of bits 6 and 7, Z and N of the sum byte. -/
def addOf (a m : Byte) (c : Bool) : Flag → Option Bool
  | .c => some (decide (255 < a.toNat + m.toNat + c.toNat))
  | .v => some (decide (127 < a.toNat % 128 + m.toNat % 128 + c.toNat) ^^ decide (255 < a.toNat + m.toNat + c.toNat))
  | .z => some (sumOf a m c == 0x00#8)
  | .n => some (bit (sumOf a m c) 7)
  | .i | .d | .b | .u => none

/-- The difference byte `A - M - (1 - C)` (R193). -/
def differenceOf (a m : Byte) (c : Bool) : Byte := a - m - (if c then 0#8 else 1#8)

/-- The flags of `A - M - (1 - C)` (R193): C is 1 when no borrow occurred, V is signed overflow, Z and N of the difference byte. -/
def subOf (a m : Byte) (c : Bool) : Flag → Option Bool
  | .c => some (decide (m.toNat + (1 - c.toNat) ≤ a.toNat))
  | .v =>
    some (decide (a.toInt - m.toInt - (1 - (c.toNat : Int)) < -128) || decide (127 < a.toInt - m.toInt - (1 - (c.toNat : Int))))
  | .z => some (differenceOf a m c == 0x00#8)
  | .n => some (bit (differenceOf a m c) 7)
  | .i | .d | .b | .u => none

/-- The flags an instruction may write (the "Flags written" of its rule). -/
def flagsWritten : Mnemonic → List Flag
  | .lda | .ldx | .ldy | .lax | .tax | .tay | .tsx | .txa | .tya | .and | .ora | .eor | .inc | .dec | .inx | .iny | .dex | .dey
  | .pla | .las | .xaa | .lxa => [.z, .n]
  | .adc | .sbc | .isb | .rra | .arr => [.c, .z, .v, .n]
  | .cmp | .cpx | .cpy | .asl | .lsr | .rol | .ror | .dcp | .slo | .rla | .sre | .anc | .alr | .axs => [.c, .z, .n]
  | .bit => [.z, .v, .n]
  | .rti | .plp => [.c, .z, .i, .d, .v, .n, .b, .u]
  | .brk | .cli | .sei => [.i]
  | .clc | .sec => [.c]
  | .cld | .sed => [.d]
  | .clv => [.v]
  | .sta | .stx | .sty | .sax | .txs | .jmp | .jsr | .rts | .bcc | .bcs | .beq | .bmi | .bne | .bpl | .bvc | .bvs | .pha | .php
  | .nop | .ahx | .shy | .shx | .tas | .kil => []

/-- The instructions that write the accumulator. -/
def writesA : List Mnemonic :=
  [.lda, .lax, .txa, .tya, .adc, .sbc, .and, .ora, .eor, .pla, .isb, .slo, .rla, .sre, .rra, .anc, .alr, .arr, .las, .xaa, .lxa]

/-- The instructions that write X. -/
def writesX : List Mnemonic := [.ldx, .lax, .tax, .tsx, .inx, .dex, .axs, .las, .lxa]

/-- The instructions that write Y. -/
def writesY : List Mnemonic := [.ldy, .tay, .iny, .dey]

/-- The instructions that write the stack pointer. -/
def writesSp : List Mnemonic := [.txs, .jsr, .rts, .rti, .brk, .pha, .php, .pla, .plp, .las, .tas]

/-- The shifts and rotates, which write the accumulator in Accumulator mode (R220). -/
def shifts : List Mnemonic := [.asl, .lsr, .rol, .ror]

/-- The instructions that write the PC beyond its own bytes. -/
def writesPc : List Mnemonic := [.jmp, .jsr, .rts, .rti, .brk, .bcc, .bcs, .beq, .bmi, .bne, .bpl, .bvc, .bvs]

/-- The cycle counts of R471, by kind of instruction and addressing mode: the second reading of the table's column. -/
def cyclesOf (m : Mnemonic) (mode : Mode) : Nat :=
  match m with
  | .jsr | .rts | .rti => 6
  | .brk => 7
  | .pha | .php => 3
  | .pla | .plp => 4
  | .jmp => if mode = .absolute then 3 else 5
  | .sta | .stx | .sty | .sax | .ahx | .shy | .shx | .tas =>
    match mode with
    | .zeroPage => 3
    | .zeroPageX | .zeroPageY | .absolute => 4
    | .absoluteX | .absoluteY => 5
    | .indexedIndirect | .indirectIndexed => 6
    | .none | .implied | .accumulator | .immediate | .relative | .indirect => 0
  | .inc | .dec | .asl | .lsr | .rol | .ror | .dcp | .isb | .slo | .rla | .sre | .rra =>
    match mode with
    | .accumulator => 2
    | .zeroPage => 5
    | .zeroPageX | .absolute => 6
    | .absoluteX | .absoluteY => 7
    | .indexedIndirect | .indirectIndexed => 8
    | .none | .implied | .immediate | .zeroPageY | .relative | .indirect => 0
  | .lda | .ldx | .ldy | .tax | .tay | .tsx | .txa | .txs | .tya | .adc | .sbc | .and | .ora | .eor | .cmp | .cpx | .cpy | .bit
  | .inx | .iny | .dex | .dey | .bcc | .bcs | .beq | .bmi | .bne | .bpl | .bvc | .bvs | .clc | .cld | .cli | .clv | .sec | .sed
  | .sei | .nop | .lax | .anc | .alr | .arr | .axs | .las | .xaa | .lxa =>
    match mode with
    | .implied | .accumulator | .immediate | .relative => 2
    | .zeroPage => 3
    | .zeroPageX | .zeroPageY | .absolute | .absoluteX | .absoluteY => 4
    | .indirectIndexed => 5
    | .indexedIndirect => 6
    | .none | .indirect => 0
  | .kil => 0

/-- The flag a branch tests and the value that takes it (R236 to R243). -/
def branchCondition : Mnemonic → Option (Flag × Bool)
  | .bcc => some (.c, false)
  | .bcs => some (.c, true)
  | .beq => some (.z, true)
  | .bmi => some (.n, true)
  | .bne => some (.z, false)
  | .bpl => some (.n, false)
  | .bvc => some (.v, false)
  | .bvs => some (.v, true)
  | .lda | .ldx | .ldy | .sta | .stx | .sty | .tax | .tay | .tsx | .txa | .txs | .tya | .adc | .sbc | .and | .ora | .eor | .cmp
  | .cpx | .cpy | .bit | .inc | .dec | .inx | .iny | .dex | .dey | .asl | .lsr | .rol | .ror | .jmp | .jsr | .rts | .rti | .brk
  | .pha | .php | .pla | .plp | .clc | .cld | .cli | .clv | .sec | .sed | .sei | .nop | .lax | .sax | .dcp | .isb | .slo | .rla
  | .sre | .rra | .anc | .alr | .arr | .axs | .las | .xaa | .lxa | .ahx | .shy | .shx | .tas | .kil => none

/-- `execution_extra` of an instruction at a state (R158): 0 but for a taken branch, which takes 1, and 1 more across a page. -/
def executionExtraAt (i : Instr) (s : State) : Nat :=
  match branchCondition i.row.mnemonic with
  | none => 0
  | some (f, wanted) => if getFlag s.cpu.p f = wanted then 1 + (if (operandsAt i s).pageCrossed then 1 else 0) else 0

/-- The bytes of `n` bus reads at ascending addresses, and the state after them (R134). -/
def readBytes : Nat → Word → State → List Byte × State
  | 0, _, s => ([], s)
  | n + 1, addr, s =>
    let (b, s) := memRead addr s
    let (bs, s) := readBytes n (addr + 1#16) s
    (b :: bs, s)

/-- The state after `k` dots. -/
def dots : Nat → State → State
  | 0, s => s
  | k + 1, s => dots k (ppuDot s)

/-- The evaluator after `k` dots of scanline `line` (R343). -/
def evalSteps (line : Nat) : Nat → Ppu → Ppu
  | 0, q => q
  | k + 1, q => evalSteps line k (evalStep line q)

/-- The OAM sprites in range of a scanline, in index order (R344). -/
def spritesInRange (q : Ppu) (line : Nat) : List Nat := (List.range 64).filter fun n => inRange q (q.oamByte (4 * n)).toNat line

/-- The addresses an instruction stores to, in a state where it executes: computed with the functions its meaning uses. -/
def writtenAddresses (i : Instr) (s : State) : List Word :=
  match i.row.mnemonic with
  | .sta | .stx | .sty | .sax | .inc | .dec | .asl | .lsr | .rol | .ror | .dcp | .isb | .slo | .rla | .sre | .rra =>
    match (operandsAt i s).operand with
    | .address ea => [ea]
    | .value _ | .none => []
  | .ahx | .tas =>
    match (operandsAt i s).operand with
    | .address ea => [storeHiAddress (operandsAt i s).pageCrossed (s.cpu.a &&& s.cpu.x) s.cpu.y ea]
    | .value _ | .none => []
  | .shy =>
    match (operandsAt i s).operand with
    | .address ea => [storeHiAddress (operandsAt i s).pageCrossed s.cpu.y s.cpu.x ea]
    | .value _ | .none => []
  | .shx =>
    match (operandsAt i s).operand with
    | .address ea => [storeHiAddress (operandsAt i s).pageCrossed s.cpu.x s.cpu.y ea]
    | .value _ | .none => []
  | .pha | .php => [stackSlot s.cpu.sp]
  | .jsr => [stackSlot s.cpu.sp, stackSlot (s.cpu.sp - 1#8)]
  | .brk => [stackSlot s.cpu.sp, stackSlot (s.cpu.sp - 1#8), stackSlot (s.cpu.sp - 2#8)]
  | .lda | .ldx | .ldy | .tax | .tay | .tsx | .txa | .txs | .tya | .adc | .sbc | .and | .ora | .eor | .cmp | .cpx | .cpy | .bit
  | .inx | .iny | .dex | .dey | .jmp | .rts | .rti | .bcc | .bcs | .beq | .bmi | .bne | .bpl | .bvc | .bvs | .pla | .plp | .clc
  | .cld | .cli | .clv | .sec | .sed | .sei | .nop | .lax | .anc | .alr | .arr | .axs | .las | .xaa | .lxa | .kil => []

/-- Whether a fault of a step is one that the spec lets a program raise (R411, R414), under the parameters that allow it. -/
def Fault.reachable (params : Params) : Fault → Prop
  | .unknownOpcode opcode _ =>
    ∃ i : Instr, i.row.opcode = opcode ∧ (i.row.tier = .halt ∨ (i.row.tier = .gated ∧ params.admitTier3 = false))
  | .romWrite _ => params.romWritePolicy = .fault
  | .addressDecode _ | .unknownInstruction _ _ | .missingOperand _ => False

end Sys2Proof.Machine
end

