-- ==== Sys2Proof/Certificates/Slice0/Obligations.lean ====
section
/-! DEFINITION. The statements about the model for the provers. `CompletesWith`, `CompletesStoring`, `operandsAt`, `resolvedAt`,
`operandValueAt`, `operandReadAt` and the flag functions are those of Safety.lean. -/

section
open Sys2Proof Sys2Proof.Machine

/-- The bytes of an instruction, followed by any bytes, decode to that instruction and leave those bytes (R100, R101, R103): every
operand at every value. -/
def Obligations.DecodeEncodeRoundTrip : Prop :=
  ∀ (i : Instr) (rest : List Byte), decode (encode i ++ rest) = .ok (i, rest)

/-- Bytes that decode are the encoding of what they decode to, so no byte is dropped and no opcode is an alias; three bytes always decode, to
an instruction with that opcode; the opcodes without a table row are exactly the twelve halt slots; and the tiers have 151, 80, 13 and 12
opcodes (R100, R102, R104). That the halt slots decode, and so that decoding is total, is the model's choice (log entry 13): R108 and R293
give them no table row, and executing one faults. -/
def Obligations.DecodingIsTotalAndLossless : Prop :=
  (∀ (bytes rest : List Byte) (i : Instr), decode bytes = .ok (i, rest) → encode i ++ rest = bytes) ∧
  (∀ (opcode b1 b2 : Byte) (rest : List Byte), ∃ i rest', decode (opcode :: b1 :: b2 :: rest) = .ok (i, rest') ∧
      i.row.opcode = opcode ∧
      (i.wellFormed = false ↔ opcode ∈ [0x02#8, 0x12#8, 0x22#8, 0x32#8, 0x42#8, 0x52#8, 0x62#8, 0x72#8, 0x92#8, 0xB2#8, 0xD2#8,
        0xF2#8])) ∧
    ∀ tier count, (tier, count) ∈ [(Tier.official, 151), (.normative, 80), (.gated, 13), (.halt, 12)] →
      (List.range 256).countP (fun n => match decode [BitVec.ofNat 8 n, 0x00#8, 0x00#8] with
        | .ok (i, _) => i.row.tier == tier
        | .error _ => false) = count

/-- One word of every family, written from the spec's encoding, decodes to its instruction (R101, R105, R106). The last word
is a halt slot: that it decodes, to an instruction that faults, is the model's choice (log entry 13). -/
def Obligations.WordsOfTheTableDecode : Prop :=
  decode [0xA9#8, 0x05#8] = .ok (.ldaImm 0x05#8, []) ∧
  decode [0x8D#8, 0x14#8, 0x40#8] = .ok (.staAbs 0x4014#16, []) ∧
  decode [0x71#8, 0x80#8] = .ok (.adcIzy 0x80#8, []) ∧
  decode [0xFE#8, 0xF0#8, 0x12#8] = .ok (.incAbx 0x12F0#16, []) ∧
  decode [0x6A#8] = .ok (.rorAcc, []) ∧
  decode [0x6C#8, 0xFF#8, 0x02#8] = .ok (.jmpInd 0x02FF#16, []) ∧
  decode [0xD0#8, 0xFC#8] = .ok (.bne 0xFC#8, []) ∧
  decode [0x28#8] = .ok (.plp, []) ∧
  decode [0xC7#8, 0x10#8] = .ok (.dcpZp 0x10#8, []) ∧
  decode [0x9C#8, 0x00#8, 0x02#8] = .ok (.shyAbx 0x0200#16, []) ∧
  decode [0x02#8] = .ok (.kil02, [])

/-- The cycle column of the table by kind of instruction and mode (R471), and the rows that take the page penalty (R157); a page is
crossed in four modes only (R154). -/
def Obligations.TableCostsFollowKindAndMode : Prop :=
  (∀ i : Instr, i.row.baseCycles = cyclesOf i.row.mnemonic i.row.mode ∧
      (i.row.pagePenalty = true ↔ i.row.mode ∈ [Mode.absoluteX, .absoluteY, .indirectIndexed] ∧
        i.row.mnemonic ∈ [Mnemonic.lda, .ldx, .ldy, .adc, .sbc, .and, .ora, .eor, .cmp, .lax, .nop, .las])) ∧
    ∀ (i : Instr) (s : State), (operandsAt i s).pageCrossed = true →
      i.row.mode ∈ [Mode.relative, .absoluteX, .absoluteY, .indirectIndexed]

/-- The fetch reads the bytes of the instruction, each once, at ascending addresses from the PC on (each address wrapping mod 65536), with
the side effects of those reads and no other effect (R131, R134). Two clauses are the model's: that the fetch leaves the PC alone, which
`exec` then advances (log entry 14, where `fetch8` of R134 advances it), and that the operand bytes of an opcode that does not execute are
read too, before the tier check (log entry 12, where R131 decides after the opcode byte). -/
def Obligations.FetchReadsEachByteOnce : Prop :=
  ∀ s : State, readBytes (fetch s).1.length s.cpu.pc s = (encode (fetch s).1, (fetch s).2)

/-- A step with no stall and no interrupt pending runs the instruction whose bytes stand at the PC (R130, R131): `exec` of it, with the
PC still at its first byte (log entry 14), then the end of the machine cycle (log entry 5: the host's input comes first). Where the bytes are in RAM or ROM the fetch has no side effect, so `exec` starts from the state itself. -/
def Obligations.StepRunsTheDecodedInstruction : Prop :=
  ∀ (s u : State), takeInput s = u → u.cpu.stall = 0 → u.nmiLine = false →
    (step s = match exec (fetch u).1 (fetch u).2 with
      | .next t => .next (finishCycle t)
      | .fault f => .fault f
      | .refused r => .refused r) ∧
    ∀ (i : Instr) (rest : List Byte), isStorage u.cpu.pc = true → isStorage (u.cpu.pc + 1#16) = true →
      isStorage (u.cpu.pc + 2#16) = true → decode (readBytes 3 u.cpu.pc u).1 = .ok (i, rest) →
      step s = match exec i u with
        | .next t => .next (finishCycle t)
        | .fault f => .fault f
        | .refused r => .refused r

/-- `LDA`, `LDX`, `LDY` and `LAX` in every mode complete: the register takes `M`, Z and N follow it, nothing else changes but for the
side effects of the reads (R170, R171, R172, R272). -/
def Obligations.LoadsComplete : Prop :=
  ∀ (i : Instr) (s : State),
    (i.row.mnemonic = .lda → CompletesWith i s (operandReadAt i s) { fetchedCpu i s with a := operandValueAt i s } 0
      (znOf (operandValueAt i s))) ∧
    (i.row.mnemonic = .ldx → CompletesWith i s (operandReadAt i s) { fetchedCpu i s with x := operandValueAt i s } 0
      (znOf (operandValueAt i s))) ∧
    (i.row.mnemonic = .ldy → CompletesWith i s (operandReadAt i s) { fetchedCpu i s with y := operandValueAt i s } 0
      (znOf (operandValueAt i s))) ∧
    (i.row.mnemonic = .lax → CompletesWith i s (operandReadAt i s)
      { fetchedCpu i s with a := operandValueAt i s, x := operandValueAt i s } 0 (znOf (operandValueAt i s)))

/-- `STA`, `STX`, `STY` and `SAX` in every mode write their register at the resolved address, which is not read, and complete with no
flag written (R173, R174, R175, R273). -/
def Obligations.StoresComplete : Prop :=
  ∀ (i : Instr) (s : State) (b : Byte),
    (i.row.mnemonic, b) ∈ [(Mnemonic.sta, s.cpu.a), (.stx, s.cpu.x), (.sty, s.cpu.y), (.sax, s.cpu.a &&& s.cpu.x)] →
    ∃ ea, (operandsAt i s).operand = .address ea ∧ CompletesStoring i s (resolvedAt i s) ea b (fetchedCpu i s) noFlags

/-- The six transfers complete: the target takes the source, Z and N follow it, except that `TXS` writes no flag (R176 to R181). -/
def Obligations.TransfersComplete : Prop :=
  ∀ s : State,
    CompletesWith .tax s s { fetchedCpu .tax s with x := s.cpu.a } 0 (znOf s.cpu.a) ∧
    CompletesWith .tay s s { fetchedCpu .tay s with y := s.cpu.a } 0 (znOf s.cpu.a) ∧
    CompletesWith .tsx s s { fetchedCpu .tsx s with x := s.cpu.sp } 0 (znOf s.cpu.sp) ∧
    CompletesWith .txa s s { fetchedCpu .txa s with a := s.cpu.x } 0 (znOf s.cpu.x) ∧
    CompletesWith .txs s s { fetchedCpu .txs s with sp := s.cpu.x } 0 noFlags ∧
    CompletesWith .tya s s { fetchedCpu .tya s with a := s.cpu.y } 0 (znOf s.cpu.y)

/-- `ADC` and `SBC` in every mode complete, whatever D is: `A + M + C` with C, V, Z, N as R190 says, and `A - M - (1 - C)` with C set
when no borrow occurred and V the signed overflow (R190 to R193, R274). The V of an addition is its signed overflow. -/
def Obligations.AddAndSubtractComplete : Prop :=
  (∀ (i : Instr) (s : State),
    (i.row.mnemonic = .adc → CompletesWith i s (operandReadAt i s)
      { fetchedCpu i s with a := sumOf s.cpu.a (operandValueAt i s) (getFlag s.cpu.p .c) } 0
      (addOf s.cpu.a (operandValueAt i s) (getFlag s.cpu.p .c))) ∧
    (i.row.mnemonic = .sbc → CompletesWith i s (operandReadAt i s)
      { fetchedCpu i s with a := differenceOf s.cpu.a (operandValueAt i s) (getFlag s.cpu.p .c) } 0
      (subOf s.cpu.a (operandValueAt i s) (getFlag s.cpu.p .c)))) ∧
  ∀ (a m : Byte) (c : Bool), addOf a m c .v =
    some (decide (a.toInt + m.toInt + c.toNat < -128) || decide (127 < a.toInt + m.toInt + c.toNat))

/-- `AND`, `ORA` and `EOR` in every mode complete: A takes the result, Z and N follow it (R194, R195, R196). -/
def Obligations.LogicCompletes : Prop :=
  ∀ (i : Instr) (s : State) (r : Byte),
    (i.row.mnemonic, r) ∈ [(Mnemonic.and, s.cpu.a &&& operandValueAt i s), (.ora, s.cpu.a ||| operandValueAt i s),
      (.eor, s.cpu.a ^^^ operandValueAt i s)] →
    CompletesWith i s (operandReadAt i s) { fetchedCpu i s with a := r } 0 (znOf r)

/-- `CMP`, `CPX`, `CPY` and `BIT` in every mode complete and write flags only (R197 to R201). -/
def Obligations.ComparesComplete : Prop :=
  ∀ (i : Instr) (s : State),
    (∀ r, (i.row.mnemonic, r) ∈ [(Mnemonic.cmp, s.cpu.a), (.cpx, s.cpu.x), (.cpy, s.cpu.y)] →
      CompletesWith i s (operandReadAt i s) (fetchedCpu i s) 0 (cmpOf r (operandValueAt i s))) ∧
    (i.row.mnemonic = .bit → CompletesWith i s (operandReadAt i s) (fetchedCpu i s) 0 fun
      | .z => some (decide (s.cpu.a &&& operandValueAt i s = 0x00#8))
      | .v => some ((operandValueAt i s).getLsbD 6)
      | .n => some ((operandValueAt i s).getLsbD 7)
      | .c | .i | .d | .b | .u => none)

/-- `INC` and `DEC` in every mode read the byte at the resolved address once, write it back changed by one once, and set Z and N from
the result; `INX`, `INY`, `DEX`, `DEY` do it on a register (R202 to R207). -/
def Obligations.IncrementsComplete : Prop :=
  (∀ (i : Instr) (s : State) (r : Byte),
    (i.row.mnemonic, r) ∈ [(Mnemonic.inc, operandValueAt i s + 1#8), (.dec, operandValueAt i s - 1#8)] →
    ∃ ea, (operandsAt i s).operand = .address ea ∧
      CompletesStoring i s (operandReadAt i s) ea r (fetchedCpu i s) (znOf r)) ∧
  ∀ s : State,
    CompletesWith .inx s s { fetchedCpu .inx s with x := s.cpu.x + 1#8 } 0 (znOf (s.cpu.x + 1#8)) ∧
    CompletesWith .iny s s { fetchedCpu .iny s with y := s.cpu.y + 1#8 } 0 (znOf (s.cpu.y + 1#8)) ∧
    CompletesWith .dex s s { fetchedCpu .dex s with x := s.cpu.x - 1#8 } 0 (znOf (s.cpu.x - 1#8)) ∧
    CompletesWith .dey s s { fetchedCpu .dey s with y := s.cpu.y - 1#8 } 0 (znOf (s.cpu.y - 1#8))

/-- `ASL`, `LSR`, `ROL` and `ROR`, on A in Accumulator mode and on memory in the others: the value shifted by one bit, the bit that
leaves in C, the old C entering in the rotates, Z and N from the result (R220 to R224). -/
def Obligations.ShiftsComplete : Prop :=
  ∀ (i : Instr) (s : State) (v r : Byte) (carry : Bool),
    (v = if i.row.mode = .accumulator then s.cpu.a else operandValueAt i s) →
    (i.row.mnemonic, r, carry) ∈ [(Mnemonic.asl, v <<< 1, v.getLsbD 7), (.lsr, v >>> 1, v.getLsbD 0),
      (.rol, v <<< 1 ||| (if getFlag s.cpu.p .c then 0x01#8 else 0x00#8), v.getLsbD 7),
      (.ror, v >>> 1 ||| (if getFlag s.cpu.p .c then 0x80#8 else 0x00#8), v.getLsbD 0)] →
    (i.row.mode = .accumulator → CompletesWith i s s { fetchedCpu i s with a := r } 0 (cznOf carry r)) ∧
    (i.row.mode ≠ .accumulator → ∃ ea, (operandsAt i s).operand = .address ea ∧
      CompletesStoring i s (operandReadAt i s) ea r (fetchedCpu i s) (cznOf carry r))

/-- `JMP` in both modes completes: the PC is the resolved address and no flag is written (R230). -/
def Obligations.JumpsComplete : Prop :=
  ∀ (i : Instr) (s : State), i.row.mnemonic = .jmp → ∃ ea, (operandsAt i s).operand = .address ea ∧
    CompletesWith i s (resolvedAt i s) { fetchedCpu i s with pc := ea } 0 noFlags

/-- `JSR` pushes the address of its own last byte, high byte first, and jumps; `RTS` pulls a word, low byte first, and goes one past it;
so an `RTS` that finds the stack as `JSR` left it comes back to the instruction after the `JSR` (R231, R232). -/
def Obligations.SubroutinesCompleteAndReturn : Prop :=
  (∀ (target : Word) (s : State), CompletesWith (.jsrAbs target) s
    { s with
      ram := Memory.write .ram (Memory.write .ram s.ram (0x100 + s.cpu.sp.toNat) (s.cpu.pc + 2#16).hi)
        (0x100 + (s.cpu.sp - 1#8).toNat) (s.cpu.pc + 2#16).lo }
    { s.cpu with pc := target, sp := s.cpu.sp - 2#8 } 0 noFlags) ∧
  (∀ s : State, CompletesWith .rts s s
    { s.cpu with
      pc := Word.ofBytes (Memory.read .ram s.ram (0x100 + (s.cpu.sp + 2#8).toNat))
        (Memory.read .ram s.ram (0x100 + (s.cpu.sp + 1#8).toNat)) + 1#16
      sp := s.cpu.sp + 2#8 } 0 noFlags) ∧
  ∀ (target : Word) (s t u v : State), exec (.jsrAbs target) s = .next t → u.ram = t.ram → u.cpu.sp = t.cpu.sp →
    exec .rts u = .next v → v.cpu.pc = s.cpu.pc + 3#16 ∧ v.cpu.sp = s.cpu.sp

/-- `BRK` pushes the address of its opcode plus 2 and `P | 0x30`, sets I and goes to the vector at 0xFFFE; `RTI` pulls the status byte,
forcing bit 5 to 1 and bit 4 to 0, then the PC, and adds nothing to it (R233, R234). -/
def Obligations.BreakAndReturnComplete : Prop :=
  ∀ s : State,
    CompletesWith .brk s
      { s with
        ram := Memory.write .ram (Memory.write .ram (Memory.write .ram s.ram
          (0x100 + s.cpu.sp.toNat) (s.cpu.pc + 2#16).hi)
          (0x100 + (s.cpu.sp - 1#8).toNat) (s.cpu.pc + 2#16).lo)
          (0x100 + (s.cpu.sp - 2#8).toNat) (s.cpu.p ||| 0x30#8) }
      { s.cpu with pc := Word.ofBytes (memRead 0xFFFF#16 s).1 (memRead 0xFFFE#16 s).1, sp := s.cpu.sp - 3#8 } 0
      (onlyFlag .i true) ∧
    CompletesWith .rti s s
      { s.cpu with
        pc := Word.ofBytes (Memory.read .ram s.ram (0x100 + (s.cpu.sp + 3#8).toNat))
          (Memory.read .ram s.ram (0x100 + (s.cpu.sp + 2#8).toNat))
        sp := s.cpu.sp + 3#8 } 0
      fun
      | .u => some true
      | .b => some false
      | f => some (getFlag (Memory.read .ram s.ram (0x100 + (s.cpu.sp + 1#8).toNat)) f)

/-- The eight branches complete: taken, the PC is the next instruction's address plus the signed offset and the cost is one more, and one
more again when the target lies in another page than the next instruction; not taken, the PC goes on at no extra cost (R235 to R243; for a
branch whose next instruction stands at 0x0000, log entry 16). -/
def Obligations.BranchesComplete : Prop :=
  ∀ (off : Byte) (s : State) (i : Instr) (f : Flag) (wanted : Bool) (target : Word),
    (i, f, wanted) ∈ [(Instr.bcc off, Flag.c, false), (.bcs off, .c, true), (.beq off, .z, true), (.bmi off, .n, true),
      (.bne off, .z, false), (.bpl off, .n, false), (.bvc off, .v, false), (.bvs off, .v, true)] →
    target = s.cpu.pc + 2#16 + off.signExtend 16 →
    CompletesWith i s s (if getFlag s.cpu.p f = wanted then { s.cpu with pc := target } else { s.cpu with pc := s.cpu.pc + 2#16 })
      (if getFlag s.cpu.p f = wanted then 1 + (if target.toNat / 256 = (s.cpu.pc + 2#16).toNat / 256 then 0 else 1) else 0) noFlags

/-- `PHA` and `PHP` write the slot, then move the pointer down; `PLA` and `PLP` move it up, then read; the pointer wraps inside page 1;
the pushed status has bits 5 and 4 set, and on restore bit 5 is forced to 1 and bit 4 to 0 (R250 to R253). -/
def Obligations.StackInstructionsComplete : Prop :=
  ∀ (s : State) (pulled : Byte), pulled = Memory.read .ram s.ram (0x100 + (s.cpu.sp + 1#8).toNat) →
    CompletesWith .pha s { s with ram := Memory.write .ram s.ram (0x100 + s.cpu.sp.toNat) s.cpu.a }
      { s.cpu with pc := s.cpu.pc + 1#16, sp := s.cpu.sp - 1#8 } 0 noFlags ∧
    CompletesWith .php s { s with ram := Memory.write .ram s.ram (0x100 + s.cpu.sp.toNat) (s.cpu.p ||| 0x30#8) }
      { s.cpu with pc := s.cpu.pc + 1#16, sp := s.cpu.sp - 1#8 } 0 noFlags ∧
    CompletesWith .pla s s { s.cpu with pc := s.cpu.pc + 1#16, sp := s.cpu.sp + 1#8, a := pulled } 0 (znOf pulled) ∧
    CompletesWith .plp s s { s.cpu with pc := s.cpu.pc + 1#16, sp := s.cpu.sp + 1#8 } 0 fun
      | .u => some true
      | .b => some false
      | f => some (getFlag pulled f)

/-- The seven flag instructions complete: each writes its one flag and nothing else (R254 to R260). -/
def Obligations.FlagInstructionsComplete : Prop :=
  ∀ (s : State) (i : Instr) (f : Flag) (on : Bool),
    (i, f, on) ∈ [(Instr.clc, Flag.c, false), (.cld, .d, false), (.cli, .i, false), (.clv, .v, false), (.sec, .c, true),
      (.sed, .d, true), (.sei, .i, true)] →
    CompletesWith i s s { s.cpu with pc := s.cpu.pc + 1#16 } 0 (onlyFlag f on)

/-- Every form of `NOP` completes and changes the PC and the stall only: the operand address is not read (R261, R271). -/
def Obligations.NopsComplete : Prop :=
  ∀ (i : Instr) (s : State), i.row.mnemonic = .nop → CompletesWith i s s (fetchedCpu i s) 0 noFlags

/-- The six fused read-modify-write instructions, in every mode: one read and one write of the resolved address, then the second
operation on A with the flags it defines; the carry out of `RRA`'s rotation goes into its addition (R275 to R280). -/
def Obligations.FusedInstructionsComplete : Prop :=
  ∀ (i : Instr) (s : State) (m r a : Byte) (flags : Flag → Option Bool), m = operandValueAt i s →
    (i.row.mnemonic, r, a, flags) ∈ [
      (Mnemonic.dcp, m - 1#8, s.cpu.a, cmpOf s.cpu.a (m - 1#8)),
      (.isb, m + 1#8, differenceOf s.cpu.a (m + 1#8) (getFlag s.cpu.p .c), subOf s.cpu.a (m + 1#8) (getFlag s.cpu.p .c)),
      (.slo, m <<< 1, s.cpu.a ||| m <<< 1, cznOf (m.getLsbD 7) (s.cpu.a ||| m <<< 1)),
      (.rla, m <<< 1 ||| (if getFlag s.cpu.p .c then 0x01#8 else 0x00#8),
        s.cpu.a &&& (m <<< 1 ||| (if getFlag s.cpu.p .c then 0x01#8 else 0x00#8)),
        cznOf (m.getLsbD 7) (s.cpu.a &&& (m <<< 1 ||| (if getFlag s.cpu.p .c then 0x01#8 else 0x00#8)))),
      (.sre, m >>> 1, s.cpu.a ^^^ m >>> 1, cznOf (m.getLsbD 0) (s.cpu.a ^^^ m >>> 1)),
      (.rra, m >>> 1 ||| (if getFlag s.cpu.p .c then 0x80#8 else 0x00#8),
        sumOf s.cpu.a (m >>> 1 ||| (if getFlag s.cpu.p .c then 0x80#8 else 0x00#8)) (m.getLsbD 0),
        addOf s.cpu.a (m >>> 1 ||| (if getFlag s.cpu.p .c then 0x80#8 else 0x00#8)) (m.getLsbD 0))] →
    ∃ ea, (operandsAt i s).operand = .address ea ∧
      CompletesStoring i s (operandReadAt i s) ea r { fetchedCpu i s with a := a } flags

/-- The seven gated Immediate opcodes complete when `ADMIT_TIER3` is true; `XAA` and `LXA` for every value of the draw `MAGIC` (R282 to
R285, R287, R288). -/
def Obligations.GatedImmediatesComplete : Prop :=
  ∀ (imm : Byte) (s : State), s.params.admitTier3 = true →
    (∀ i, i ∈ [Instr.ancImm0B imm, .ancImm2B imm] → CompletesWith i s s { fetchedCpu i s with a := s.cpu.a &&& imm } 0
      (cznOf ((s.cpu.a &&& imm).getLsbD 7) (s.cpu.a &&& imm))) ∧
    CompletesWith (.alrImm imm) s s { fetchedCpu (.alrImm imm) s with a := (s.cpu.a &&& imm) >>> 1 } 0
      (cznOf ((s.cpu.a &&& imm).getLsbD 0) ((s.cpu.a &&& imm) >>> 1)) ∧
    (∀ r, r = (s.cpu.a &&& imm) >>> 1 ||| (if getFlag s.cpu.p .c then 0x80#8 else 0x00#8) →
      CompletesWith (.arrImm imm) s s { fetchedCpu (.arrImm imm) s with a := r } 0 fun
        | .c => some (r.getLsbD 6)
        | .v => some (r.getLsbD 6 ^^ r.getLsbD 5)
        | .z => some (decide (r = 0x00#8))
        | .n => some (r.getLsbD 7)
        | .i | .d | .b | .u => none) ∧
    CompletesWith (.axsImm imm) s s { fetchedCpu (.axsImm imm) s with x := (s.cpu.a &&& s.cpu.x) - imm } 0
      (cznOf (decide (imm.toNat ≤ (s.cpu.a &&& s.cpu.x).toNat)) ((s.cpu.a &&& s.cpu.x) - imm)) ∧
    CompletesWith (.xaaImm imm) s s
      { fetchedCpu (.xaaImm imm) s with a := (s.cpu.a ||| s.params.magic) &&& s.cpu.x &&& imm } 0
      (znOf ((s.cpu.a ||| s.params.magic) &&& s.cpu.x &&& imm)) ∧
    CompletesWith (.lxaImm imm) s s
      { fetchedCpu (.lxaImm imm) s with a := (s.cpu.a ||| s.params.magic) &&& imm, x := (s.cpu.a ||| s.params.magic) &&& imm } 0
      (znOf ((s.cpu.a ||| s.params.magic) &&& imm))

/-- `LAS` and the five gated stores complete when `ADMIT_TIER3` is true: the byte stored is the register and one more than the high byte
of the base, and it replaces the high byte of the address when a page is crossed; `TAS` moves SP first (R286, R289 to R292). -/
def Obligations.GatedMemoryInstructionsComplete : Prop :=
  ∀ (i : Instr) (s : State), s.params.admitTier3 = true →
    (∀ r, i.row.mnemonic = .las → r = operandValueAt i s &&& s.cpu.sp →
      CompletesWith i s (operandReadAt i s) { fetchedCpu i s with a := r, x := r, sp := r } 0 (znOf r)) ∧
    ∀ (reg index sp : Byte), (i.row.mnemonic, reg, index, sp) ∈ [
        (Mnemonic.ahx, s.cpu.a &&& s.cpu.x, s.cpu.y, s.cpu.sp), (.shy, s.cpu.y, s.cpu.x, s.cpu.sp),
        (.shx, s.cpu.x, s.cpu.y, s.cpu.sp), (.tas, s.cpu.a &&& s.cpu.x, s.cpu.y, s.cpu.a &&& s.cpu.x)] →
      ∃ ea v, (operandsAt i s).operand = .address ea ∧ v = reg &&& ((ea - index.zeroExtend 16).hi + 1#8) ∧
        CompletesStoring i s (resolvedAt i s) (if (operandsAt i s).pageCrossed then Word.ofBytes v ea.lo else ea) v
          { fetchedCpu i s with sp := sp } noFlags

/-- The thirteen gated opcodes raise `Fault(UnknownOpcode)` with the opcode and its address when `ADMIT_TIER3` is false (R281, R411). -/
def Obligations.GatedOpcodesFault : Prop :=
  ∀ (i : Instr) (s : State),
    i.row.opcode ∈ [0x0B#8, 0x2B#8, 0x4B#8, 0x6B#8, 0x8B#8, 0xAB#8, 0xCB#8, 0x9F#8, 0x93#8, 0x9C#8, 0x9E#8, 0x9B#8, 0xBB#8] →
    s.params.admitTier3 = false → exec i s = .fault (.unknownOpcode i.row.opcode s.cpu.pc)

/-- The twelve halt slots raise `Fault(UnknownOpcode)` with the opcode and its address, always (R293, R411). -/
def Obligations.HaltSlotsFault : Prop :=
  ∀ (i : Instr) (opcode : Byte) (s : State),
    (i, opcode) ∈ [(Instr.kil02, 0x02#8), (.kil12, 0x12#8), (.kil22, 0x22#8), (.kil32, 0x32#8), (.kil42, 0x42#8), (.kil52, 0x52#8),
      (.kil62, 0x62#8), (.kil72, 0x72#8), (.kil92, 0x92#8), (.kilB2, 0xB2#8), (.kilD2, 0xD2#8), (.kilF2, 0xF2#8)] →
    exec i s = .fault (.unknownOpcode opcode s.cpu.pc)

/-- The register frame of every instruction: A, X, Y, SP, each flag and the PC change only where the instruction's rule writes them, and
the cycle counter never (R182, R166, R26, R23). -/
def Obligations.RegisterFrame : Prop :=
  ∀ (i : Instr) (s t : State), exec i s = .next t →
    (i.row.mnemonic ∉ writesA → ¬(i.row.mnemonic ∈ shifts ∧ i.row.mode = .accumulator) → t.cpu.a = s.cpu.a) ∧
    (i.row.mnemonic ∉ writesX → t.cpu.x = s.cpu.x) ∧
    (i.row.mnemonic ∉ writesY → t.cpu.y = s.cpu.y) ∧
    (i.row.mnemonic ∉ writesSp → t.cpu.sp = s.cpu.sp) ∧
    (∀ f, f ∉ flagsWritten i.row.mnemonic → getFlag t.cpu.p f = getFlag s.cpu.p f) ∧
    (i.row.mnemonic ∉ writesPc → t.cpu.pc = s.cpu.pc + BitVec.ofNat 16 i.length) ∧
    t.cpu.cyc = s.cpu.cyc

/-- The memory frame of every instruction: a byte of RAM or ROM reads as before unless a written address selects it; the PPU's memories
and registers that only writes change, and the strobes, are as before unless a written address selects their port (or the DMA, for OAM);
the PPU's position, pipelines and line buffer, the cartridge, the parameters, the inputs, the output and the interrupt line are as
before. -/
def Obligations.MemoryFrame : Prop :=
  ∀ (i : Instr) (s t : State), exec i s = .next t →
    (∀ addr, isStorage addr = true → (∀ w ∈ writtenAddresses i s, cpuDecode w ≠ cpuDecode addr) →
      (memRead addr t).1 = (memRead addr s).1) ∧
    ((∀ w ∈ writtenAddresses i s, ∀ p, cpuDecode w ≠ .ppuPort p) →
      t.ppu.ctrl = s.ppu.ctrl ∧ t.ppu.mask = s.ppu.mask ∧ t.ppu.t = s.ppu.t ∧ t.ppu.oamAddr = s.ppu.oamAddr ∧
        t.ppu.vram = s.ppu.vram ∧ t.ppu.palette = s.ppu.palette ∧
        ((∀ w ∈ writtenAddresses i s, cpuDecode w ≠ .oamDma) → t.ppu.oam = s.ppu.oam)) ∧
    ((∀ w ∈ writtenAddresses i s, cpuDecode w ≠ .pad1) → t.pad1.strobe = s.pad1.strobe) ∧
    ((∀ w ∈ writtenAddresses i s, cpuDecode w ≠ .pad2) → t.pad2.strobe = s.pad2.strobe) ∧
    t.pad1.buttons = s.pad1.buttons ∧ t.pad2.buttons = s.pad2.buttons ∧
    (t.ppu.scanline, t.ppu.dot, t.ppu.frame) = (s.ppu.scanline, s.ppu.dot, s.ppu.frame) ∧
    (t.ppu.ntByte, t.ppu.atBits, t.ppu.patLo, t.ppu.patHi) = (s.ppu.ntByte, s.ppu.atBits, s.ppu.patLo, s.ppu.patHi) ∧
    (t.ppu.bgPatLo, t.ppu.bgPatHi, t.ppu.bgAtLo, t.ppu.bgAtHi) = (s.ppu.bgPatLo, s.ppu.bgPatHi, s.ppu.bgAtLo, s.ppu.bgAtHi) ∧
    (t.ppu.evalState, t.ppu.evalN, t.ppu.secSlot, t.ppu.spriteCount, t.ppu.secOam, t.ppu.spriteLine) =
      (s.ppu.evalState, s.ppu.evalN, s.ppu.secSlot, s.ppu.spriteCount, s.ppu.secOam, s.ppu.spriteLine) ∧
    t.cart = s.cart ∧ t.params = s.params ∧ t.inputs = s.inputs ∧ t.events = s.events ∧ t.nmiLine = s.nmiLine

/-- The addressing-mode resolver (R140 to R152): what each mode yields, with the zero page wrapping in itself, the Indirect pointer wrapping
in its page, and the full 16-bit additions of the other indexed modes, whose crossing is told by the address bits above the page. -/
def Obligations.ResolverFollowsItsModes : Prop :=
  ∀ (s : State) (b : Byte) (w : Word),
    (∀ o, o ∈ [Operand.none, .implied, .accumulator] → resolve o s = (⟨[], .none, false⟩, s)) ∧
    resolve (.immediate b) s = (⟨[b], .value b, false⟩, s) ∧
    resolve (.zeroPage b) s = (⟨[b], .address (Word.ofBytes 0x00#8 b), false⟩, s) ∧
    resolve (.zeroPageX b) s = (⟨[b], .address (Word.ofBytes 0x00#8 (b + s.cpu.x)), false⟩, s) ∧
    resolve (.zeroPageY b) s = (⟨[b], .address (Word.ofBytes 0x00#8 (b + s.cpu.y)), false⟩, s) ∧
    resolve (.absolute w) s = (⟨[w.lo, w.hi], .address w, false⟩, s) ∧
    (∃ ea, resolve (.relative b) s = (⟨[b], .address ea, decide (ea.toNat / 256 ≠ s.cpu.pc.toNat / 256)⟩, s) ∧
      (ea.toNat : Int) = (s.cpu.pc.toNat + b.toInt) % 65536) ∧
    (∃ ea, resolve (.absoluteX w) s = (⟨[w.lo, w.hi], .address ea, decide (ea.toNat / 256 ≠ w.toNat / 256)⟩, s) ∧
      ea.toNat = (w.toNat + s.cpu.x.toNat) % 65536) ∧
    (∃ ea, resolve (.absoluteY w) s = (⟨[w.lo, w.hi], .address ea, decide (ea.toNat / 256 ≠ w.toNat / 256)⟩, s) ∧
      ea.toNat = (w.toNat + s.cpu.y.toNat) % 65536) ∧
    (∀ lo hi u v, memRead w s = (lo, u) → memRead (Word.ofBytes w.hi (w.lo + 1#8)) u = (hi, v) →
      resolve (.indirect w) s = (⟨[w.lo, w.hi], .address (Word.ofBytes hi lo), false⟩, v)) ∧
    (∀ lo hi u v, memRead (Word.ofBytes 0x00#8 (b + s.cpu.x)) s = (lo, u) →
      memRead (Word.ofBytes 0x00#8 (b + s.cpu.x + 1#8)) u = (hi, v) →
      resolve (.indexedIndirect b) s = (⟨[b], .address (Word.ofBytes hi lo), false⟩, v)) ∧
    ∀ lo hi u v, memRead (Word.ofBytes 0x00#8 b) s = (lo, u) → memRead (Word.ofBytes 0x00#8 (b + 1#8)) u = (hi, v) →
      ∃ ea, resolve (.indirectIndexed b) s = (⟨[b], .address ea, decide (ea.toNat / 256 ≠ hi.toNat)⟩, v) ∧
        ea.toNat = (hi.toNat * 256 + lo.toNat + s.cpu.y.toNat) % 65536

/-- What an instruction adds to the stall: its cost less one, and 512 more when it writes the OAM-DMA port (R156, R421). The cost is the base
cycles of its row, one more for a page crossed by a row with the page penalty (R157), and the `execution_extra` of R158; it lies between
2 and 8 (R471). -/
def Obligations.StallAccounting : Prop :=
  ∀ (i : Instr) (s t : State), exec i s = .next t → ∀ cost,
    cost = i.row.baseCycles + (if (operandsAt i s).pageCrossed ∧ i.row.pagePenalty then 1 else 0) + executionExtraAt i s →
    2 ≤ cost ∧ cost ≤ 8 ∧
    t.cpu.stall + 1 = s.cpu.stall + cost + (if 0x4014#16 ∈ writtenAddresses i s then 512 else 0)

/-- Reads of the CPU bus, over the whole address space (R61, R63, R64, R65, R66), each PPU port under its own number (R370), and the decoder error of a wider address (R68). -/
def Obligations.BusReadsFollowTheMap : Prop :=
  (∀ (addr : Word) (s : State),
    (addr.toNat ≤ 0x1FFF → memRead addr s = (Memory.read .ram s.ram (addr.toNat % 0x0800), s)) ∧
    (∀ port, 0x2000 ≤ addr.toNat → addr.toNat ≤ 0x3FFF → (addr.toNat % 8, port) ∈ [(0, PpuPort.control), (1, .mask), (2, .status), (3, .oamAddress), (4, .oamData),
      (5, .scroll), (6, .address), (7, .data)] →
      memRead addr s = ppuPortRead port s) ∧
    (0x4000 ≤ addr.toNat → addr.toNat ≤ 0x4015 → memRead addr s = (s.params.apuFiller, s)) ∧
    (addr = 0x4016#16 → memRead addr s = (s.pad1.read s.params.ctrlAfter8, { s with pad1 := s.pad1.afterRead })) ∧
    (addr = 0x4017#16 → memRead addr s = (s.pad2.read s.params.ctrlAfter8, { s with pad2 := s.pad2.afterRead })) ∧
    (0x4018 ≤ addr.toNat → addr.toNat ≤ 0x7FFF → memRead addr s = (0x00#8, s)) ∧
    (0x8000 ≤ addr.toNat → s.cart.pages = .one →
      memRead addr s = (Memory.read .prg16 s.cart.prg ((addr.toNat - 0x8000) % 0x4000), s)) ∧
    (0x8000 ≤ addr.toNat → s.cart.pages = .two → memRead addr s = (Memory.read .prg32 s.cart.prg (addr.toNat - 0x8000), s))) ∧
  ∀ (addr : Nat) (b : Byte) (s : State), 0xFFFF < addr →
    memReadWide addr s = .error (.addressDecode addr) ∧ memWriteWide addr b s = .error (.addressDecode addr)

/-- Writes of the CPU bus, over the whole address space (R62, R414), each PPU port under its own number (R370). -/
def Obligations.BusWritesFollowTheMap : Prop :=
  ∀ (addr : Word) (b : Byte) (s : State),
    (addr.toNat ≤ 0x1FFF → memWrite addr b s = .ok { s with ram := Memory.write .ram s.ram (addr.toNat % 0x0800) b }) ∧
    (∀ port, 0x2000 ≤ addr.toNat → addr.toNat ≤ 0x3FFF → (addr.toNat % 8, port) ∈ [(0, PpuPort.control), (1, .mask), (2, .status), (3, .oamAddress), (4, .oamData),
      (5, .scroll), (6, .address), (7, .data)] →
      memWrite addr b s = ppuPortWrite port b s) ∧
    (addr = 0x4014#16 → memWrite addr b s = .ok (oamDma b s)) ∧
    (0x4000 ≤ addr.toNat → addr.toNat ≤ 0x4015 → addr ≠ 0x4014#16 → memWrite addr b s = .ok s) ∧
    (addr = 0x4016#16 → memWrite addr b s = .ok { s with pad1 := s.pad1.write b }) ∧
    (addr = 0x4017#16 → memWrite addr b s = .ok { s with pad2 := s.pad2.write b }) ∧
    (0x4018 ≤ addr.toNat → addr.toNat ≤ 0x7FFF → memWrite addr b s = .ok s) ∧
    (0x8000 ≤ addr.toNat → s.params.romWritePolicy = .fault → memWrite addr b s = .error (.romWrite addr)) ∧
    (0x8000 ≤ addr.toNat → s.params.romWritePolicy = .ignore → memWrite addr b s = .ok s)

/-- A byte written to work RAM is read back through every mirror at once, and no other RAM byte changes (R63, R90). -/
def Obligations.RamReadsBackThroughMirrors : Prop :=
  ∀ (addr other : Word) (b : Byte) (s t : State), addr.toNat ≤ 0x1FFF → other.toNat ≤ 0x1FFF → memWrite addr b s = .ok t →
    (memRead other t).1 = if other.toNat % 0x0800 = addr.toNat % 0x0800 then b else (memRead other s).1

/-- Only reads of 0x2002, of 0x2007 (each with its mirrors) and of the two controller ports have a side effect, and what such a read
changes is `status`, `w`, `v`, `readBuffer` and the shift indexes (R83). -/
def Obligations.ReadSideEffects : Prop :=
  ∀ (addr : Word) (s : State),
    (¬(0x2000 ≤ addr.toNat ∧ addr.toNat ≤ 0x3FFF ∧ (addr.toNat % 8 = 2 ∨ addr.toNat % 8 = 7)) → addr ≠ 0x4016#16 →
      addr ≠ 0x4017#16 → (memRead addr s).2 = s) ∧
    ∀ t, t = (memRead addr s).2 →
      t = { s with
        ppu := { s.ppu with status := t.ppu.status, w := t.ppu.w, v := t.ppu.v, readBuffer := t.ppu.readBuffer }
        pad1 := { s.pad1 with shift := t.pad1.shift }
        pad2 := { s.pad2 with shift := t.pad2.shift } }

/-- The PPU bus (R75 to R78): the address is reduced to 14 bits; character ROM, nametable RAM folded to 2048 bytes, and palette RAM with
its four aliases; a write is read back at every address that selects the same byte and at no other, and a write to character ROM has
no effect or faults by `ROM_WRITE_POLICY`. -/
def Obligations.PpuBusFollowsTheMap : Prop :=
  (∀ (addr : Word) (s : State),
    (addr.toNat % 0x4000 ≤ 0x1FFF → ppuRead s addr = Memory.read .chr s.cart.chr (addr.toNat % 0x4000)) ∧
    (0x2000 ≤ addr.toNat % 0x4000 → addr.toNat % 0x4000 ≤ 0x3EFF →
      ppuRead s addr = Memory.read .vram s.ppu.vram (addr.toNat % 0x0800)) ∧
    (0x3F00 ≤ addr.toNat % 0x4000 → ppuRead s addr = Memory.read .palette s.ppu.palette
      (if addr.toNat % 0x20 ∈ [0x10, 0x14, 0x18, 0x1C] then addr.toNat % 0x20 - 0x10 else addr.toNat % 0x20))) ∧
  (∀ (addr other : Word) (b : Byte) (s t : State), 0x2000 ≤ addr.toNat % 0x4000 → ppuWrite s addr b = .ok t →
    ppuRead t other = if ppuDecode other = ppuDecode addr then b else ppuRead s other) ∧
  ∀ (addr : Word) (b : Byte) (s : State),
    (0x2000 ≤ addr.toNat % 0x4000 → ∃ t, ppuWrite s addr b = .ok t) ∧
    (addr.toNat % 0x4000 ≤ 0x1FFF → ppuWrite s addr b = match s.params.romWritePolicy with
      | .ignore => .ok s
      | .fault => .error (.romWrite (BitVec.ofNat 16 (addr.toNat % 0x4000))))

/-- A write to 0x4014 copies the 256 bytes of the page to OAM in order, from index 0 whatever `oamAddr` holds, and adds 512 stall cycles
(R421). For every page: the reads are bus reads at ascending addresses, the i-th from the state `u i` that the transfers before it left,
with its side effects; its byte goes to `oam[i]` and stays there. For a page of RAM or of program ROM and for 0x41 to 0x7F nothing else
changes, so the bytes are those the page held before; on 0x41 to 0x7F they are zeros (R423). -/
def Obligations.OamDmaCopiesAPage : Prop :=
  ∀ (page : Byte) (s : State), ∃ t, memWrite 0x4014#16 page s = .ok t ∧ t.cpu = { s.cpu with stall := s.cpu.stall + 512 } ∧
    (∃ u : Nat → State, u 0 = s ∧ t = { u 256 with cpu := t.cpu } ∧
      ∀ i, i < 256 → ∃ b v, memRead (BitVec.ofNat 16 (page.toNat * 256 + i)) (u i) = (b, v) ∧
        u (i + 1) = { v with ppu := { v.ppu with oam := (u (i + 1)).ppu.oam } } ∧
        (∀ j, Memory.read .oam (u (i + 1)).ppu.oam j = if j = i then b else Memory.read .oam (u i).ppu.oam j) ∧
        Memory.read .oam t.ppu.oam i = b) ∧
    (page.toNat ≤ 0x1F ∨ 0x41 ≤ page.toNat →
      t = { s with cpu := t.cpu, ppu := { s.ppu with oam := t.ppu.oam } } ∧
      ∀ i, i < 256 → Memory.read .oam t.ppu.oam i = (memRead (BitVec.ofNat 16 (page.toNat * 256 + i)) s).1) ∧
    (0x41 ≤ page.toNat → page.toNat ≤ 0x7F → ∀ i, i < 256 → Memory.read .oam t.ppu.oam i = 0x00#8)

/-- The controller protocol (R426, R427): after 1 and 0 are written to a port its reads give the eight buttons, A first, then
`CTRL_AFTER_8`; while the strobe is high every read gives A; the other port does not notice. -/
def Obligations.ControllersShiftOutTheButtons : Prop :=
  ∀ (s t u : State),
    (memWrite 0x4016#16 0x01#8 s = .ok t → memWrite 0x4016#16 0x00#8 t = .ok u →
      u.pad2 = s.pad2 ∧
      (∀ n, (memRead 0x4016#16 ((fun v => (memRead 0x4016#16 v).2)^[n] t)).1 = boolByte (s.pad1.buttons.getLsbD 0)) ∧
      ∀ n, (memRead 0x4016#16 ((fun v => (memRead 0x4016#16 v).2)^[n] u)).1 =
        boolByte (if n < 8 then s.pad1.buttons.getLsbD n else s.params.ctrlAfter8)) ∧
    (memWrite 0x4017#16 0x01#8 s = .ok t → memWrite 0x4017#16 0x00#8 t = .ok u →
      u.pad1 = s.pad1 ∧
      (∀ n, (memRead 0x4017#16 ((fun v => (memRead 0x4017#16 v).2)^[n] t)).1 = boolByte (s.pad2.buttons.getLsbD 0)) ∧
      ∀ n, (memRead 0x4017#16 ((fun v => (memRead 0x4017#16 v).2)^[n] u)).1 =
        boolByte (if n < 8 then s.pad2.buttons.getLsbD n else s.params.ctrlAfter8))

/-- The ports without an address pair (R372, R373, R375, R376, R379, R381, R382): what each read returns and each write does. -/
def Obligations.PpuPortsReadAndWrite : Prop :=
  ∀ (b : Byte) (s : State),
    (∀ p, p ∈ [PpuPort.control, .mask, .oamAddress, .scroll, .address] → ppuPortRead p s = (s.params.ppuWoRead, s)) ∧
    (∀ r t, ppuPortRead .status s = (r, t) → (∀ k, r.getLsbD k = (decide (5 ≤ k) && s.ppu.status.getLsbD k)) ∧
      (∀ k, t.ppu.status.getLsbD k = (decide (k ≠ 7) && s.ppu.status.getLsbD k)) ∧
      t = { s with ppu := { s.ppu with status := t.ppu.status, w := false } }) ∧
    ppuPortRead .oamData s = (Memory.read .oam s.ppu.oam s.ppu.oamAddr.toNat, s) ∧
    ppuPortWrite .mask b s = .ok { s with ppu := { s.ppu with mask := b } } ∧
    ppuPortWrite .status b s = .ok s ∧
    ppuPortWrite .oamAddress b s = .ok { s with ppu := { s.ppu with oamAddr := b } } ∧
    (∀ t, ppuPortWrite .oamData b s = .ok t → t.ppu.oamAddr.toNat = (s.ppu.oamAddr.toNat + 1) % 256 ∧
      t = { s with ppu := { s.ppu with oam := t.ppu.oam, oamAddr := t.ppu.oamAddr } } ∧
      ∀ j, Memory.read .oam t.ppu.oam j = if j = s.ppu.oamAddr.toNat then b else Memory.read .oam s.ppu.oam j)

/-- Writes to 0x2000, 0x2005 and 0x2006 (R371, R383 to R386): the bits of `t` that each replaces, the shared toggle, and the copy of the
whole of `t` to `v` on the second address write. -/
def Obligations.ScrollAndAddressWrites : Prop :=
  ∀ (b : Byte) (s : State),
    (∃ t, ppuPortWrite .control b s = .ok t ∧ t = { s with ppu := { s.ppu with ctrl := b, t := t.ppu.t } } ∧
      ∀ k, k < 15 → t.ppu.t.getLsbD k = if k = 10 ∨ k = 11 then b.getLsbD (k - 10) else s.ppu.t.getLsbD k) ∧
    (∃ t, ppuPortWrite .scroll b s = .ok t ∧ t = { s with ppu := { s.ppu with t := t.ppu.t, w := !s.ppu.w } } ∧
      ∀ k, k < 15 → t.ppu.t.getLsbD k =
        if s.ppu.w then
          if 12 ≤ k then b.getLsbD (k - 12) else if 5 ≤ k ∧ k ≤ 9 then b.getLsbD (k - 2) else s.ppu.t.getLsbD k
        else if k ≤ 4 then b.getLsbD (k + 3) else s.ppu.t.getLsbD k) ∧
    ∃ t, ppuPortWrite .address b s = .ok t ∧
      t = { s with ppu := { s.ppu with t := t.ppu.t, w := !s.ppu.w, v := if s.ppu.w then t.ppu.t else s.ppu.v } } ∧
      ∀ k, k < 15 → t.ppu.t.getLsbD k =
        if s.ppu.w then if k ≤ 7 then b.getLsbD k else s.ppu.t.getLsbD k
        else if k = 14 then false else if 8 ≤ k then b.getLsbD (k - 8) else s.ppu.t.getLsbD k

/-- Port 0x2007 (R387, R388, R389): writes go to the PPU bus, reads below the palette return the buffer and refill it, palette reads are
direct and refill it from the nametable under the palette, and both move `v` by 1 or 32 within 15 bits. -/
def Obligations.DataPortReadsAndWrites : Prop :=
  ∀ (b : Byte) (s : State) (a : Word) (next : VramAddr), a = BitVec.ofNat 16 (s.ppu.v.toNat % 0x4000) →
    next = BitVec.ofNat 15 ((s.ppu.v.toNat + if s.ppu.ctrl.getLsbD 2 then 32 else 1) % 0x8000) →
    (a.toNat < 0x3F00 → ppuPortRead .data s =
      (s.ppu.readBuffer, { s with ppu := { s.ppu with v := next, readBuffer := ppuRead s a } })) ∧
    (0x3F00 ≤ a.toNat → ppuPortRead .data s =
      (ppuRead s a, { s with ppu := { s.ppu with v := next, readBuffer := ppuRead s (a - 0x1000#16) } })) ∧
    (∀ t, ppuWrite s a b = .ok t → ppuPortWrite .data b s = .ok { t with ppu := { t.ppu with v := next } }) ∧
    ∀ f, ppuWrite s a b = .error f → ppuPortWrite .data b s = .error f

/-- The PPU position over a frame (R300, R305, R306): from dot 0 of line 0 the position after k dots is the quotient and the remainder of k by
341; the frame count goes up after 89342 dots, and after an odd frame the position is dot 1, so that the next frame has 89341. -/
def Obligations.FramesHave89342Dots : Prop :=
  ∀ s : State, s.ppu.scanline = 0 →
    (s.ppu.dot = 0 →
      (∀ k, k ≤ 89341 → ((dots k s).ppu.scanline, (dots k s).ppu.dot, (dots k s).ppu.frame) = (k / 341, k % 341, s.ppu.frame)) ∧
      ((dots 89342 s).ppu.scanline, (dots 89342 s).ppu.dot, (dots 89342 s).ppu.frame) =
        (0, if s.ppu.frame % 2 = 1 then 1 else 0, s.ppu.frame + 1)) ∧
    (s.ppu.dot = 1 → s.ppu.frame % 2 = 0 →
      ((dots 89341 s).ppu.scanline, (dots 89341 s).ppu.dot, (dots 89341 s).ppu.frame) = (0, 0, s.ppu.frame + 1))

/-- The single-dot events and the output of a dot (R328, R329, R331, R354): the vblank flag and the interrupt line at (241, 1), the flag's end
at (261, 1), the frame event at (240, 0), and one pixel at every dot 1 to 256 of the visible lines, whatever `mask` holds. -/
def Obligations.DotEventsAndOutput : Prop :=
  ∀ (s : State) (line d : Nat), s.ppu.scanline = line → s.ppu.dot = d →
    (ppuDot s).nmiLine = (s.nmiLine || (decide (line = 241 ∧ d = 1) && s.ppu.ctrl.getLsbD 7)) ∧
    (∀ k, (ppuDot s).ppu.status.getLsbD k =
      if k = 7 ∧ line = 241 ∧ d = 1 then true else if k = 7 ∧ line = 261 ∧ d = 1 then false else s.ppu.status.getLsbD k) ∧
    (ppuDot s).events =
      if line ≤ 239 ∧ 1 ≤ d ∧ d ≤ 256 then
        .pixel (d - 1) line ((ppuRead s (choose (backgroundIndex s.ppu) (spriteAt s.ppu (d - 1)))).setWidth 6) :: s.events
      else if line = 240 ∧ d = 0 then .frame :: s.events
      else s.events

/-- What a dot leaves alone (R304): the CPU, RAM, the controllers, the cartridge, the parameters, the inputs, the PPU's memories and the
registers that only ports write; and with rendering off under the gate (R303) the pipelines and `v` too, while a visible dot still emits
the backdrop colour. -/
def Obligations.DotFrame : Prop :=
  ∀ s t : State, ppuDot s = t →
    (t.cpu = s.cpu ∧ t.ram = s.ram ∧ t.pad1 = s.pad1 ∧ t.pad2 = s.pad2 ∧ t.cart = s.cart ∧ t.params = s.params ∧
      t.inputs = s.inputs ∧ t.ppu.vram = s.ppu.vram ∧ t.ppu.palette = s.ppu.palette ∧ t.ppu.oam = s.ppu.oam ∧
      t.ppu.ctrl = s.ppu.ctrl ∧ t.ppu.mask = s.ppu.mask ∧ t.ppu.t = s.ppu.t ∧ t.ppu.w = s.ppu.w ∧
      t.ppu.oamAddr = s.ppu.oamAddr ∧ t.ppu.readBuffer = s.ppu.readBuffer) ∧
    (s.params.ppuGateOnMask = true → s.ppu.mask.getLsbD 3 = false → s.ppu.mask.getLsbD 4 = false →
      t = { s with
        ppu := { s.ppu with scanline := t.ppu.scanline, dot := t.ppu.dot, frame := t.ppu.frame, status := t.ppu.status }
        nmiLine := t.nmiLine
        events := t.events } ∧
      (s.ppu.scanline ≤ 239 → 1 ≤ s.ppu.dot → s.ppu.dot ≤ 256 → t.events =
        .pixel (s.ppu.dot - 1) s.ppu.scanline ((ppuRead s 0x3F00#16).setWidth 6) :: s.events))

/-- The four scroll updates on the fields of `v`, and the dots at which they happen while rendering (R302, R320 to R323). -/
def Obligations.ScrollUpdates : Prop :=
  (∀ v : VramAddr,
    (incCoarseX v).toNat % 32 = (v.toNat + 1) % 32 ∧
    (incCoarseX v).toNat / 1024 % 2 = (if v.toNat % 32 = 31 then 1 - v.toNat / 1024 % 2 else v.toNat / 1024 % 2) ∧
    (incCoarseX v).toNat / 32 % 32 = v.toNat / 32 % 32 ∧ (incCoarseX v).toNat / 2048 = v.toNat / 2048) ∧
  (∀ v : VramAddr,
    (incY v).toNat % 32 = v.toNat % 32 ∧ (incY v).toNat / 1024 % 2 = v.toNat / 1024 % 2 ∧
    (incY v).toNat / 4096 = (v.toNat / 4096 + 1) % 8 ∧
    (incY v).toNat / 32 % 32 = (if v.toNat / 4096 = 7 then if v.toNat / 32 % 32 = 29 then 0 else (v.toNat / 32 + 1) % 32
      else v.toNat / 32 % 32) ∧
    (incY v).toNat / 2048 % 2 = (if v.toNat / 4096 = 7 ∧ v.toNat / 32 % 32 = 29 then 1 - v.toNat / 2048 % 2
      else v.toNat / 2048 % 2)) ∧
  (∀ (v t : VramAddr) (k : Nat), k < 15 →
    (copyHorizontal v t).getLsbD k = (if k ≤ 4 ∨ k = 10 then t.getLsbD k else v.getLsbD k) ∧
    (copyVertical v t).getLsbD k = (if k ≤ 4 ∨ k = 10 then v.getLsbD k else t.getLsbD k)) ∧
  ∀ (s : State) (line d : Nat), s.ppu.scanline = line → s.ppu.dot = d →
    (ppuDot s).ppu.v =
      if gate s = true ∧ (line ≤ 239 ∨ line = 261) then
        if ((1 ≤ d ∧ d ≤ 255) ∨ (321 ≤ d ∧ d ≤ 336)) ∧ d % 8 = 0 then incCoarseX s.ppu.v
        else if d = 256 then incY (incCoarseX s.ppu.v)
        else if d = 257 then copyHorizontal s.ppu.v s.ppu.t
        else if line = 261 ∧ 280 ≤ d ∧ d ≤ 304 then copyVertical s.ppu.v s.ppu.t
        else s.ppu.v
      else s.ppu.v

/-- The background pipeline of a dot (R302, R311 to R317): on a render line with the gate open, in the fetch windows, the shift registers
reload at phase 1 and shift at every dot, and the four fetches fall on phases 2, 4, 6 and 0; outside the windows, on the scanlines 240 to
260 and with the gate closed everything holds. -/
def Obligations.BackgroundPipeline : Prop :=
  ∀ (s : State) (d v : Nat) (q : Ppu) (fetching : Prop), s.ppu.dot = d → s.ppu.v.toNat = v → (ppuDot s).ppu = q →
    (fetching ↔ gate s = true ∧ (s.ppu.scanline ≤ 239 ∨ s.ppu.scanline = 261) ∧ ((1 ≤ d ∧ d ≤ 256) ∨ (321 ≤ d ∧ d ≤ 336))) →
    (fetching →
      (d % 8 = 1 →
        q.bgPatLo = Word.ofBytes (Word.hi s.ppu.bgPatLo) s.ppu.patLo <<< 1 ∧ q.bgPatHi = Word.ofBytes (Word.hi s.ppu.bgPatHi) s.ppu.patHi <<< 1 ∧
        q.bgAtLo = Word.ofBytes (Word.hi s.ppu.bgAtLo) (if s.ppu.atBits.getLsbD 0 then 0xFF#8 else 0x00#8) <<< 1 ∧
        q.bgAtHi = Word.ofBytes (Word.hi s.ppu.bgAtHi) (if s.ppu.atBits.getLsbD 1 then 0xFF#8 else 0x00#8) <<< 1) ∧
      (d % 8 ≠ 1 →
        q.bgPatLo = s.ppu.bgPatLo <<< 1 ∧ q.bgPatHi = s.ppu.bgPatHi <<< 1 ∧ q.bgAtLo = s.ppu.bgAtLo <<< 1 ∧
        q.bgAtHi = s.ppu.bgAtHi <<< 1) ∧
      q.ntByte = (if d % 8 = 2 then ppuRead s (BitVec.ofNat 16 (0x2000 + v % 0x1000)) else s.ppu.ntByte) ∧
      q.atBits = (if d % 8 = 4 then
          BitVec.ofNat 2 ((ppuRead s (BitVec.ofNat 16 (0x23C0 + v / 1024 % 4 * 1024 + v / 128 % 8 * 8 + v / 4 % 8))).toNat /
            2 ^ (v / 64 % 2 * 4 + v / 2 % 2 * 2))
        else s.ppu.atBits) ∧
      q.patLo = (if d % 8 = 6 then
          ppuRead s (BitVec.ofNat 16 ((if s.ppu.ctrl.getLsbD 4 then 0x1000 else 0) + s.ppu.ntByte.toNat * 16 + v / 4096))
        else s.ppu.patLo) ∧
      q.patHi = (if d % 8 = 0 then
          ppuRead s (BitVec.ofNat 16 ((if s.ppu.ctrl.getLsbD 4 then 0x1000 else 0) + s.ppu.ntByte.toNat * 16 + v / 4096 + 8))
        else s.ppu.patHi)) ∧
    (¬fetching →
      (q.bgPatLo, q.bgPatHi, q.bgAtLo, q.bgAtHi) = (s.ppu.bgPatLo, s.ppu.bgPatHi, s.ppu.bgAtLo, s.ppu.bgAtHi) ∧
      (q.ntByte, q.atBits, q.patLo, q.patHi) = (s.ppu.ntByte, s.ppu.atBits, s.ppu.patLo, s.ppu.patHi))

/-- The compositor (R355 to R358): the background index from the top bits, either layer off by its `mask` bit, and the table of priorities
with the palette address of the winner. -/
def Obligations.CompositorFollowsItsTable : Prop :=
  (∀ q : Ppu,
    (q.mask.getLsbD 3 = false → backgroundIndex q = 0#4) ∧
    (q.mask.getLsbD 3 = true → (backgroundIndex q).toNat = 8 * (q.bgAtHi.getLsbD 15).toNat + 4 * (q.bgAtLo.getLsbD 15).toNat +
      2 * (q.bgPatHi.getLsbD 15).toNat + (q.bgPatLo.getLsbD 15).toNat) ∧
    ∀ x, spriteAt q x = if q.mask.getLsbD 4 then spriteLineAt q.spriteLine x else none) ∧
  ∀ (bg : BitVec 4) (sp : Option SpritePixel),
    (sp = none ∨ (∃ e, sp = some e ∧ e.colour.toNat % 4 = 0) →
      (choose bg sp).toNat = if bg.toNat % 4 = 0 then 0x3F00 else 0x3F00 + bg.toNat) ∧
    ∀ e, sp = some e → e.colour.toNat % 4 ≠ 0 →
      (choose bg sp).toNat = if bg.toNat % 4 ≠ 0 ∧ e.behind = true then 0x3F00 + bg.toNat else 0x3F10 + e.colour.toNat

/-- Sprite evaluation over the 192 dots of a line with `oam` and `ctrl` unchanged (R342 to R345): the slots of secondary OAM hold the first
eight sprites in range, in index order, the other bytes are kept, and the evaluator rests. -/
def Obligations.EvaluationSelectsTheFirstEight : Prop :=
  ∀ (q e : Ppu) (line : Nat), evalSteps line 192 (evalInit q) = e →
    e.evalState = .done ∧ e.spriteCount = min 8 (spritesInRange q line).length ∧
    (∀ k n, k < 8 → (spritesInRange q line)[k]? = some n → ∀ j, j < 4 → e.secOamByte (4 * k + j) = q.oamByte (4 * n + j)) ∧
    (∀ i, 4 * e.spriteCount ≤ i → e.secOamByte i = q.secOamByte i) ∧
    e.oam = q.oam

/-- A sprite fetch registers the opaque pixels of its eight columns at the X positions 0 to 255 that are still empty, and nothing else; an
empty slot does nothing (R347, R349, R350). -/
def Obligations.SpriteFetchFillsEmptyPositions : Prop :=
  ∀ (k line x : Nat) (s : State),
    (s.ppu.spriteCount ≤ k → spriteFetch k line s = s) ∧
    ∀ (attr x0 lo hi : Byte) (address : Word) (b px : Nat), k < s.ppu.spriteCount →
      attr = s.ppu.secOamByte (4 * k + 2) → x0 = s.ppu.secOamByte (4 * k + 3) →
      address = spritePatternAddress s.ppu (s.ppu.secOamByte (4 * k + 1)) attr ((line : Int) - (s.ppu.secOamByte (4 * k)).toNat) →
      lo = ppuRead s address → hi = ppuRead s (address + 8#16) →
      b = (if attr.getLsbD 6 then x - x0.toNat else 7 - (x - x0.toNat)) →
      px = 2 * (hi.getLsbD b).toNat + (lo.getLsbD b).toNat →
      spriteLineAt (spriteFetch k line s).ppu.spriteLine x =
        match spriteLineAt s.ppu.spriteLine x with
        | some e => some e
        | none =>
          if x0.toNat ≤ x ∧ x < x0.toNat + 8 ∧ x ≤ 255 ∧ px ≠ 0 then
            some { colour := BitVec.ofNat 4 (4 * (attr.toNat % 4) + px), behind := attr.getLsbD 5 }
          else none

/-- The sprite pattern address for a row inside the sprite (R348): the table by `ctrl` bit 3 for 8 rows, by bit 0 of the tile for 16, and
vertical flip. -/
def Obligations.SpritePatternAddresses : Prop :=
  ∀ (q : Ppu) (tile attr : Byte) (row r : Nat),
    (q.ctrl.getLsbD 5 = false → row < 8 → r = (if attr.getLsbD 7 then 7 - row else row) →
      (spritePatternAddress q tile attr row).toNat = (if q.ctrl.getLsbD 3 then 0x1000 else 0) + tile.toNat * 16 + r) ∧
    (q.ctrl.getLsbD 5 = true → row < 16 → r = (if attr.getLsbD 7 then 15 - row else row) →
      (spritePatternAddress q tile attr row).toNat =
        tile.toNat % 2 * 0x1000 + (tile.toNat / 2 * 2 + r / 8) * 16 + r % 8)

/-- The sprite work of a dot while rendering (R340 to R342, R346): clearing over dots 1 to 64, evaluation from its start at dot 65 to dot 256,
the line buffer emptied at dot 257 of render lines, a fetch at every eighth dot from 264 to 320, and nothing else. -/
def Obligations.SpriteWorkByDot : Prop :=
  ∀ (s : State) (line d : Nat) (q e : Ppu), gate s = true → s.ppu.scanline = line → s.ppu.dot = d → (ppuDot s).ppu = q →
    (line ≤ 239 → 1 ≤ d → d ≤ 64 → ∀ i, q.secOamByte i = if i = (d - 1) / 2 then 0xFF#8 else s.ppu.secOamByte i) ∧
    (line ≤ 239 → 65 ≤ d → d ≤ 256 → e = evalStep line (if d = 65 then evalInit s.ppu else s.ppu) →
      (q.evalState, q.evalN, q.secSlot, q.spriteCount, q.secOam) = (e.evalState, e.evalN, e.secSlot, e.spriteCount, e.secOam)) ∧
    (239 < line ∨ d < 65 ∨ 256 < d →
      (q.evalState, q.evalN, q.secSlot, q.spriteCount) =
        (s.ppu.evalState, s.ppu.evalN, s.ppu.secSlot, s.ppu.spriteCount)) ∧
    (239 < line ∨ d = 0 ∨ 256 < d → q.secOam = s.ppu.secOam) ∧
    q.spriteLine =
      if d = 257 ∧ (line ≤ 239 ∨ line = 261) then []
      else if line ≤ 239 ∧ 264 ≤ d ∧ d ≤ 320 ∧ d % 8 = 0 then (spriteFetch ((d - 264) / 8) line s).ppu.spriteLine
      else s.ppu.spriteLine

/-- The invariant holds right after reset: the bits of P and of `status`, the position, the counters and the line buffer as R450 and R452
leave them; the canonical form of the memories is log entry 4's, and the blank cartridge log entry 3's, both the model's choices. -/
def Obligations.InvariantAtReset : Prop := State.reset.Inv

/-- Every step keeps the invariant: bit 5 of P is 1 and bit 4 is 0 (R26), `status` has only its vblank bit (R41), the position lies in the grid
(R47), the evaluator's counters and the shift indexes in their ranges (R51, R53), no transparent sprite pixel is registered (R350), and
every memory is in canonical form (log entry 4). -/
def Obligations.StepKeepsTheInvariant : Prop :=
  ∀ s t : State, s.Inv → step s = .next t → t.Inv

/-- A step never refuses, and faults only by an opcode that does not execute, at the PC, or by a ROM write under the policy that faults: the
decoder errors and the executor mismatches cannot occur (R411 to R414, R461). -/
def Obligations.StepFaultsAreTheSpecs : Prop :=
  ∀ s : State, (∀ r, step s ≠ .refused r) ∧
    ∀ f, step s = .fault f → Fault.reachable s.params f ∧ ∀ opcode a, f = .unknownOpcode opcode a → a = (takeInput s).cpu.pc

/-- A machine cycle (R130, R430): while the stall is positive nothing else of the CPU runs, even with an interrupt pending; the cycle count
goes up by one; three dots end the cycle; the cartridge and the parameters never change; one host input is taken (log entry 5). -/
def Obligations.MachineCycleOrder : Prop :=
  ∀ s u : State, takeInput s = u →
    (0 < u.cpu.stall → step s = .next (dots 3 { u with cpu := { u.cpu with stall := u.cpu.stall - 1, cyc := u.cpu.cyc + 1 } })) ∧
    ∀ t, step s = .next t → t.cpu.cyc = s.cpu.cyc + 1 ∧ t.cart = s.cart ∧ t.params = s.params ∧ t.inputs = s.inputs.tail ∧
      ∃ v : State, t = dots 3 { v with cpu := { v.cpu with cyc := v.cpu.cyc + 1 } } ∧
        (v.ppu.scanline, v.ppu.dot, v.ppu.frame) = (u.ppu.scanline, u.ppu.dot, u.ppu.frame)

/-- NMI entry (R401, R402): with no stall and the line set the cycle executes no instruction; it clears the line, pushes the PC, high byte
first, and P with bit 5 set and bit 4 clear, sets I, loads the PC from 0xFFFA and adds `NMI_STALL_ADD` to the stall (R403), whatever I is. That the cycle takes the host's input first is log
entry 5. -/
def Obligations.NmiEntryTakesTheVector : Prop :=
  ∀ s u : State, takeInput s = u → u.cpu.stall = 0 → u.nmiLine = true →
    ∃ p pushed : Byte,
      (∀ f, getFlag p f = if f = .i then true else getFlag u.cpu.p f) ∧
      (∀ f, getFlag pushed f = if f = .u then true else if f = .b then false else getFlag u.cpu.p f) ∧
      step s = .next (finishCycle { u with
        nmiLine := false
        ram := Memory.write .ram (Memory.write .ram (Memory.write .ram u.ram
          (0x100 + u.cpu.sp.toNat) u.cpu.pc.hi)
          (0x100 + (u.cpu.sp - 1#8).toNat) u.cpu.pc.lo)
          (0x100 + (u.cpu.sp - 2#8).toNat) pushed
        cpu := { u.cpu with
          p := p
          sp := u.cpu.sp - 3#8
          pc := Word.ofBytes (memRead 0xFFFB#16 u).1 (memRead 0xFFFA#16 u).1
          stall := u.params.nmiStallAdd } })

/-- `RTI` undoes an interrupt entry (R406): from a state that still has the stack and the pointer an entry left, it restores the PC, the
pointer and the whole status byte, I included. -/
def Obligations.RtiReturnsFromAnInterrupt : Prop :=
  ∀ s t u : State, s.cpu.reservedBits → nmiEntry s = .ok t → u.ram = t.ram → u.cpu.sp = t.cpu.sp →
    ∃ v, exec .rti u = .next v ∧ v.cpu.pc = s.cpu.pc ∧ v.cpu.sp = s.cpu.sp ∧ v.cpu.p = s.cpu.p

/-- The state right after reset (R450, R452, R453, R56): every value the spec gives, palette RAM by the default of `PALETTE_POWERUP`; the
vector bytes are those of the blank cartridge (log entry 3). -/
def Obligations.ResetValues : Prop :=
  State.reset.cpu.a = 0x00#8 ∧ State.reset.cpu.x = 0x00#8 ∧ State.reset.cpu.y = 0x00#8 ∧ State.reset.cpu.sp = 0xFD#8 ∧
  State.reset.cpu.p = 0x24#8 ∧ State.reset.cpu.stall = 7 ∧ State.reset.cpu.cyc = 0 ∧
  State.reset.cpu.pc = Word.ofBytes (memRead 0xFFFD#16 State.reset).1 (memRead 0xFFFC#16 State.reset).1 ∧
  State.reset.nmiLine = false ∧
  (State.reset.ppu.scanline, State.reset.ppu.dot, State.reset.ppu.frame) = (0, 0, 0) ∧
  rendering State.reset.ppu = false ∧ (State.reset.ppu.ctrl, State.reset.ppu.mask, State.reset.ppu.status) = (0x00#8, 0x00#8, 0x00#8) ∧
  (State.reset.ppu.oamAddr, State.reset.ppu.readBuffer) = (0x00#8, 0x00#8) ∧
  (State.reset.ppu.v, State.reset.ppu.t, State.reset.ppu.w) = (0x0000#15, 0x0000#15, false) ∧
  (State.reset.ppu.ntByte, State.reset.ppu.atBits, State.reset.ppu.patLo, State.reset.ppu.patHi) = (0x00#8, 0#2, 0x00#8, 0x00#8) ∧
  (State.reset.ppu.bgPatLo, State.reset.ppu.bgPatHi, State.reset.ppu.bgAtLo, State.reset.ppu.bgAtHi) =
    (0x0000#16, 0x0000#16, 0x0000#16, 0x0000#16) ∧
  (State.reset.ppu.evalState, State.reset.ppu.evalN, State.reset.ppu.secSlot, State.reset.ppu.spriteCount) = (.copyY, 0, 0, 0) ∧
  (∀ x, spriteLineAt State.reset.ppu.spriteLine x = none) ∧
  (State.reset.pad1.strobe, State.reset.pad1.shift, State.reset.pad2.strobe, State.reset.pad2.shift) = (false, 0, false, 0) ∧
  (∀ i : Fin 32, Memory.read .palette State.reset.ppu.palette i = 0x00#8 ∧ Params.default.palettePowerUp[i] = 0x00#8) ∧
  ∀ i, Memory.read .ram State.reset.ram i = 0x00#8 ∧ Memory.read .vram State.reset.ppu.vram i = 0x00#8 ∧
    Memory.read .oam State.reset.ppu.oam i = 0x00#8 ∧ Memory.read .secOam State.reset.ppu.secOam i = 0xFF#8

/-- A host reset (R452): what it writes, what it keeps, and that it pushes nothing; it falls before the machine cycle of its input
(log entry 5: the input list and the button levels are the model's). -/
def Obligations.ResetSequence : Prop :=
  ∀ (s t : State) (i : HostInput) (rest : List HostInput), s.inputs = i :: rest → i.reset = true → takeInput s = t →
    (∀ f, getFlag t.cpu.p f = if f = .i then true else getFlag s.cpu.p f) ∧
    t = { s with
      cpu := { s.cpu with
        sp := s.cpu.sp - 3#8
        p := t.cpu.p
        pc := Word.ofBytes (memRead 0xFFFD#16 s).1 (memRead 0xFFFC#16 s).1
        stall := 7 }
      nmiLine := false
      inputs := rest
      pad1 := { s.pad1 with buttons := i.buttons1 }
      pad2 := { s.pad2 with buttons := i.buttons2 }
      ppu := { s.ppu with
        ctrl := 0x00#8, mask := 0x00#8, t := 0x0000#15, w := false, readBuffer := 0x00#8
        scanline := 0, dot := 0, frame := 0
        ntByte := 0x00#8, atBits := 0#2, patLo := 0x00#8, patHi := 0x00#8
        bgPatLo := 0x0000#16, bgPatHi := 0x0000#16, bgAtLo := 0x0000#16, bgAtHi := 0x0000#16
        evalState := .copyY, evalN := 0, secSlot := 0, spriteCount := 0
        spriteLine := [] } }

/-- Power-up (R85, R87, R450, R453, R454): an image is admitted exactly with one or two program pages, one character page and enough bytes; the
ROMs are its slices, the PC is its reset vector, and the registers, the stall and RAM have their boot values. A 32 KiB image of zeros
gives `State.reset` (log entry 3). -/
def Obligations.PowerUpBuildsTheMachine : Prop :=
  (∀ (params : Params) (image : List Byte) (p c : Nat), (image.getD 4 0x00#8).toNat = p → (image.getD 5 0x00#8).toNat = c →
    (¬((p = 1 ∨ p = 2) ∧ c = 1 ∧ 16 + 16384 * p + 8192 * c ≤ image.length) →
      powerUp params image = .refused .imageNotAdmitted) ∧
    ((p = 1 ∨ p = 2) ∧ c = 1 ∧ 16 + 16384 * p + 8192 * c ≤ image.length →
      ∃ s : State, powerUp params image = .next s ∧
        (∀ i, i < 16384 * p → s.cart.prgByte i = image.getD (16 + i) 0x00#8) ∧
        (∀ i, i < 8192 → s.cart.chrByte i = image.getD (16 + 16384 * p + i) 0x00#8) ∧
        s.cpu = { a := 0x00#8, x := 0x00#8, y := 0x00#8, sp := 0xFD#8, p := 0x24#8, stall := 7, cyc := 0
                  pc := Word.ofBytes (image.getD (16 + 16384 * p - 3) 0x00#8) (image.getD (16 + 16384 * p - 4) 0x00#8) } ∧
        (∀ i, Memory.read .ram s.ram i = 0x00#8) ∧
        (∀ i : Fin 32, Memory.read .palette s.ppu.palette i = params.palettePowerUp[i]) ∧
        s.params = params ∧
        ∀ pc, powerUpAt params image pc = .next (s.setPc pc))) ∧
  ∀ header : List Byte, header.length = 16 → header.getD 4 0x00#8 = 0x02#8 → header.getD 5 0x00#8 = 0x01#8 →
    powerUp Params.default (header ++ List.replicate 40960 0x00#8) = .next State.reset

/-- The trace (R409, R440): a record for each cycle that retires an instruction, with the registers and the position of its start, and none
for a stall cycle, an NMI entry or a cycle that ends in a fault (log entries 5 and 15). -/
def Obligations.TraceRecordsTheInstruction : Prop :=
  ∀ s u : State, takeInput s = u →
    ((0 < u.cpu.stall ∨ u.nmiLine = true) → traceRecord s = none) ∧
    (∀ f, step s = .fault f → traceRecord s = none) ∧
    ∀ t, u.cpu.stall = 0 → u.nmiLine = false → step s = .next t → ∃ r, traceRecord s = some r ∧
      r.pc0 = u.cpu.pc ∧ r.opcode :: r.bytes = encode (fetch u).1 ∧ r.mnemonic = (fetch u).1.row.mnemonic ∧
      r.official = (fetch u).1.row.official ∧ r.operand = (operandsAt (fetch u).1 (fetch u).2).operand ∧
      (r.a, r.x, r.y, r.p, r.sp) = (u.cpu.a, u.cpu.x, u.cpu.y, u.cpu.p, u.cpu.sp) ∧
      (r.scanline, r.dot, r.cyc) = (u.ppu.scanline, u.ppu.dot, u.cpu.cyc)

end
end

