-- ==== Sys2Proof/Laws/Flags.lean ====
section
/-! SUPPORT. What every flag of a computed status byte is: one lemma per flag computation, over all eight flags at once. -/

namespace Sys2Proof.Machine

theorem Flag.index_inj (f g : Flag) : f.index = g.index ↔ f = g := by cases f <;> cases g <;> decide

theorem Flag.index_lt (f : Flag) : f.index < 8 := by cases f <;> decide

@[simp] theorem getFlag_setFlag (p : Byte) (f g : Flag) (on : Bool) :
    getFlag (setFlag p f on) g = if g = f then on else getFlag p g := by
  have hg := g.index_lt
  simp only [getFlag, setFlag]
  cases on
  · simp only [Bool.false_eq_true, if_false, BitVec.getLsbD_and, BitVec.getLsbD_not, BitVec.getLsbD_shiftLeft,
      BitVec.getLsbD_one, ← Flag.index_inj]
    grind
  · simp only [if_true, BitVec.getLsbD_or, BitVec.getLsbD_shiftLeft, BitVec.getLsbD_one, ← Flag.index_inj]
    grind

/-- A status byte is its eight flags. -/
theorem status_ext {p q : Byte} (h : ∀ f, getFlag p f = getFlag q f) : p = q := by
  apply BitVec.eq_of_getLsbD_eq
  intro k hk
  have : k = 0 ∨ k = 1 ∨ k = 2 ∨ k = 3 ∨ k = 4 ∨ k = 5 ∨ k = 6 ∨ k = 7 := by omega
  rcases this with rfl | rfl | rfl | rfl | rfl | rfl | rfl | rfl
  · exact h .c
  · exact h .z
  · exact h .i
  · exact h .d
  · exact h .b
  · exact h .u
  · exact h .v
  · exact h .n

@[simp] theorem getFlag_flagsZN (p r : Byte) (f : Flag) : getFlag (flagsZN p r) f = (znOf r f).getD (getFlag p f) := by
  cases f <;> simp [flagsZN, znOf]

@[simp] theorem getFlag_flagsCompare (p r m : Byte) (f : Flag) :
    getFlag (flagsCompare p r m) f =
      match f with
      | .c => decide (m ≤ r)
      | .z => r == m
      | .n => bit (r - m) 7
      | .i | .d | .b | .u | .v => getFlag p f := by
  cases f <;> simp [flagsCompare]

@[simp] theorem getFlag_flagsAdd (p a m : Byte) (f : Flag) :
    getFlag (flagsAdd p a m) f =
      match f with
      | .c => carry7 a m (getFlag p .c)
      | .v => carry6 a m (getFlag p .c) ^^ carry7 a m (getFlag p .c)
      | .z => addResult a m (getFlag p .c) == 0x00#8
      | .n => bit (addResult a m (getFlag p .c)) 7
      | .i | .d | .b | .u => getFlag p f := by
  cases f <;> simp [flagsAdd, znOf]

@[simp] theorem getFlag_flagsBit (p a m : Byte) (f : Flag) :
    getFlag (flagsBit p a m) f =
      match f with
      | .z => a &&& m == 0x00#8
      | .v => bit m 6
      | .n => bit m 7
      | .c | .i | .d | .b | .u => getFlag p f := by
  cases f <;> simp [flagsBit]

@[simp] theorem getFlag_restoredStatus (b : Byte) (f : Flag) :
    getFlag (restoredStatus b) f =
      match f with
      | .u => true
      | .b => false
      | .c | .z | .i | .d | .v | .n => getFlag b f := by
  cases f <;> simp [restoredStatus, getFlag, Flag.index]

@[simp] theorem getFlag_pushedByInstruction (p : Byte) (f : Flag) :
    getFlag (pushedByInstruction p) f =
      match f with
      | .u | .b => true
      | .c | .z | .i | .d | .v | .n => getFlag p f := by
  cases f <;> simp [pushedByInstruction, getFlag, Flag.index]

@[simp] theorem getFlag_pushedByNmi (p : Byte) (f : Flag) :
    getFlag (pushedByNmi p) f =
      match f with
      | .u => true
      | .b => false
      | .c | .z | .i | .d | .v | .n => getFlag p f := by
  cases f <;> simp [pushedByNmi, getFlag, Flag.index]

end Sys2Proof.Machine
end

