-- ==== Sys2Proof/Laws/Memory.lean ====
section
/-! SUPPORT. Laws of storage: read after write at the same and at another index, and the canonical form that every operation
keeps. -/

namespace Sys2Proof.Machine

variable {α : Type}

@[simp] theorem Store.get_nil (d : α) (i : Nat) : Store.get d [] i = d := rfl

theorem Store.get_cons (d : α) (e : Nat × α) (m : List (Nat × α)) (i : Nat) :
    Store.get d (e :: m) i = if i = e.1 then e.2 else Store.get d m i := rfl

theorem Store.get_erase (d : α) (m : List (Nat × α)) (i j : Nat) :
    Store.get d (Store.erase m i) j = if j = i then d else Store.get d m j := by
  induction m with
  | nil => simp [Store.erase]
  | cons e m ih =>
    by_cases hi : i = e.1 <;> by_cases hj : j = e.1 <;> simp_all [Store.erase, Store.get_cons]
    all_goals grind

theorem Store.mem_erase {m : List (Nat × α)} {i : Nat} {e : Nat × α} (h : e ∈ Store.erase m i) : e ∈ m ∧ e.1 ≠ i := by
  induction m with
  | nil => simp [Store.erase] at h
  | cons f m ih =>
    simp only [Store.erase] at h
    split at h <;> grind

theorem Store.get_insert (d : α) (m : List (Nat × α)) (i j : Nat) (x : α) (h : ∀ e ∈ m, e.1 ≠ i) :
    Store.get d (Store.insert m i x) j = if j = i then x else Store.get d m j := by
  induction m with
  | nil => simp [Store.insert, Store.get_cons]
  | cons e m ih =>
    have h' := ih fun f hf => h f (List.mem_cons_of_mem _ hf)
    have he := h e (List.mem_cons_self ..)
    simp only [Store.insert]
    split
    · rfl
    · simp only [Store.get_cons, h']
      grind

theorem Store.mem_insert {m : List (Nat × α)} {i : Nat} {x : α} {e : Nat × α} (h : e ∈ Store.insert m i x) :
    e = (i, x) ∨ e ∈ m := by
  induction m with
  | nil => simpa [Store.insert] using h
  | cons f m ih =>
    simp only [Store.insert] at h
    split at h <;> grind

/-- Read after write. -/
theorem Store.get_set [DecidableEq α] (d : α) (m : List (Nat × α)) (i j : Nat) (x : α) :
    Store.get d (Store.set d m i x) j = if j = i then x else Store.get d m j := by
  unfold Store.set
  split
  · rename_i h
    rw [Store.get_erase, h]
  · rw [Store.get_insert, Store.get_erase]
    · split <;> simp_all
    · exact fun e he => (Store.mem_erase he).2

theorem Store.erase_pairwise {m : List (Nat × α)} (i : Nat) (h : m.Pairwise fun e f => e.1 < f.1) :
    (Store.erase m i).Pairwise fun e f => e.1 < f.1 := by
  induction m with
  | nil => exact h
  | cons e m ih =>
    rw [List.pairwise_cons] at h
    simp only [Store.erase]
    split
    · exact ih h.2
    · exact List.pairwise_cons.2 ⟨fun f hf => h.1 f (Store.mem_erase hf).1, ih h.2⟩

theorem Store.insert_pairwise {m : List (Nat × α)} {i : Nat} (x : α) (h : m.Pairwise fun e f => e.1 < f.1)
    (hi : ∀ e ∈ m, e.1 ≠ i) : (Store.insert m i x).Pairwise fun e f => e.1 < f.1 := by
  induction m with
  | nil => simp [Store.insert]
  | cons e m ih =>
    have h' := List.pairwise_cons.1 h
    simp only [Store.insert]
    split
    · refine List.pairwise_cons.2 ⟨fun f hf => ?_, h⟩
      rcases List.mem_cons.1 hf with rfl | hf
      · assumption
      · exact Nat.lt_trans ‹i < e.1› (h'.1 f hf)
    · refine List.pairwise_cons.2 ⟨fun f hf => ?_, ih h'.2 fun f hf => hi f (List.mem_cons_of_mem _ hf)⟩
      rcases Store.mem_insert hf with rfl | hf
      · have := hi e (List.mem_cons_self ..)
        grind
      · exact h'.1 f hf

/-- A write inside the block keeps the canonical form. -/
theorem Store.wf_set [DecidableEq α] {d : α} {size : Nat} {m : List (Nat × α)} {i : Nat} (x : α) (h : Store.wf d size m)
    (hi : i < size) : Store.wf d size (Store.set d m i x) := by
  unfold Store.set
  split
  · exact ⟨Store.erase_pairwise i h.1, fun e he => h.2 e (Store.mem_erase he).1⟩
  · refine ⟨Store.insert_pairwise x (Store.erase_pairwise i h.1) fun e he => (Store.mem_erase he).2, fun e he => ?_⟩
    rcases Store.mem_insert he with rfl | he
    · exact ⟨hi, ‹_›⟩
    · exact h.2 e (Store.mem_erase he).1

theorem Store.wf_nil [DecidableEq α] (d : α) (size : Nat) : Store.wf d size [] := by simp [Store.wf]

/-- Read after write of a block's byte. -/
@[simp] theorem Memory.read_write (sp : Space) (m : Memory) (i j : Nat) (b : Byte) :
    Memory.read sp (Memory.write sp m i b) j = if j = i then b else Memory.read sp m j := Store.get_set ..

theorem Memory.wf_write {sp : Space} {m : Memory} {i : Nat} (b : Byte) (h : Memory.wf sp m) (hi : i < sp.size) :
    Memory.wf sp (Memory.write sp m i b) := Store.wf_set b h hi

theorem Memory.wf_nil (sp : Space) : Memory.wf sp [] := Store.wf_nil ..

/-- Every byte of a list put into a block from index `i` on reads back. -/
theorem Memory.read_ofBytes (sp : Space) (l : List Byte) (i j : Nat) :
    Memory.read sp (Memory.ofBytes sp i l) j = if i ≤ j then l.getD (j - i) sp.fill else sp.fill := by
  unfold Memory.read
  induction l generalizing i with
  | nil => simp [Memory.ofBytes]
  | cons b l ih =>
    have key : (b :: l).getD (j - i) sp.fill = if j = i then b else if i ≤ j then l.getD (j - (i + 1)) sp.fill else b := by
      rcases Nat.lt_trichotomy j i with h | h | h
      · simp [Nat.sub_eq_zero_of_le (Nat.le_of_lt h), Nat.ne_of_lt h, Nat.not_le.2 h]
      · simp [h]
      · obtain ⟨k, rfl⟩ : ∃ k, j = i + 1 + k := ⟨j - (i + 1), by omega⟩
        rw [if_neg (by omega), if_pos (by omega), show i + 1 + k - i = k + 1 by omega, Nat.add_sub_cancel_left]
        rfl
    rw [key]
    simp only [Memory.ofBytes]
    split
    · rw [ih]; grind
    · rw [Store.get_cons, ih]; grind

theorem Memory.wf_ofBytes {sp : Space} {l : List Byte} {i : Nat} (h : i + l.length ≤ sp.size) :
    Memory.wf sp (Memory.ofBytes sp i l) ∧ ∀ e ∈ Memory.ofBytes sp i l, i ≤ e.1 := by
  induction l generalizing i with
  | nil => exact ⟨Memory.wf_nil sp, by simp [Memory.ofBytes]⟩
  | cons b l ih =>
    rw [List.length_cons] at h
    obtain ⟨h1, h2⟩ := ih (i := i + 1) (by omega)
    simp only [Memory.ofBytes]
    split
    · exact ⟨h1, fun e he => by have := h2 e he; omega⟩
    · refine ⟨⟨List.pairwise_cons.2 ⟨fun e he => h2 e he, h1.1⟩, fun e he => ?_⟩, fun e he => ?_⟩
      · rcases List.mem_cons.1 he with rfl | he
        · exact ⟨by omega, ‹_›⟩
        · exact h1.2 e he
      · rcases List.mem_cons.1 he with rfl | he
        · exact Nat.le_refl i
        · have := h2 e he; omega

@[simp] theorem spriteLineAt_set (line : List (Nat × Option SpritePixel)) (x y : Nat) (e : Option SpritePixel) :
    spriteLineAt (Store.set none line x e) y = if y = x then e else spriteLineAt line y := Store.get_set ..

end Sys2Proof.Machine
end

