-- ==== Sys2Proof/Laws/State.lean ====
section
/-! SUPPORT. One lemma per field per named update of the state, each true by `rfl`. -/

namespace Sys2Proof.Machine

@[simp] theorem State.setA_cpu_a (s : State) (b : Byte) : (s.setA b).cpu.a = b := rfl
@[simp] theorem State.setA_cpu_x (s : State) (b : Byte) : (s.setA b).cpu.x = s.cpu.x := rfl
@[simp] theorem State.setA_cpu_y (s : State) (b : Byte) : (s.setA b).cpu.y = s.cpu.y := rfl
@[simp] theorem State.setA_cpu_sp (s : State) (b : Byte) : (s.setA b).cpu.sp = s.cpu.sp := rfl
@[simp] theorem State.setA_cpu_pc (s : State) (b : Byte) : (s.setA b).cpu.pc = s.cpu.pc := rfl
@[simp] theorem State.setA_cpu_p (s : State) (b : Byte) : (s.setA b).cpu.p = s.cpu.p := rfl
@[simp] theorem State.setA_cpu_stall (s : State) (b : Byte) : (s.setA b).cpu.stall = s.cpu.stall := rfl
@[simp] theorem State.setA_cpu_cyc (s : State) (b : Byte) : (s.setA b).cpu.cyc = s.cpu.cyc := rfl
@[simp] theorem State.setA_ppu (s : State) (b : Byte) : (s.setA b).ppu = s.ppu := rfl
@[simp] theorem State.setA_nmiLine (s : State) (b : Byte) : (s.setA b).nmiLine = s.nmiLine := rfl
@[simp] theorem State.setA_ram (s : State) (b : Byte) : (s.setA b).ram = s.ram := rfl
@[simp] theorem State.setA_pad1 (s : State) (b : Byte) : (s.setA b).pad1 = s.pad1 := rfl
@[simp] theorem State.setA_pad2 (s : State) (b : Byte) : (s.setA b).pad2 = s.pad2 := rfl
@[simp] theorem State.setA_cart (s : State) (b : Byte) : (s.setA b).cart = s.cart := rfl
@[simp] theorem State.setA_params (s : State) (b : Byte) : (s.setA b).params = s.params := rfl
@[simp] theorem State.setA_inputs (s : State) (b : Byte) : (s.setA b).inputs = s.inputs := rfl
@[simp] theorem State.setA_events (s : State) (b : Byte) : (s.setA b).events = s.events := rfl

@[simp] theorem State.setX_cpu_a (s : State) (b : Byte) : (s.setX b).cpu.a = s.cpu.a := rfl
@[simp] theorem State.setX_cpu_x (s : State) (b : Byte) : (s.setX b).cpu.x = b := rfl
@[simp] theorem State.setX_cpu_y (s : State) (b : Byte) : (s.setX b).cpu.y = s.cpu.y := rfl
@[simp] theorem State.setX_cpu_sp (s : State) (b : Byte) : (s.setX b).cpu.sp = s.cpu.sp := rfl
@[simp] theorem State.setX_cpu_pc (s : State) (b : Byte) : (s.setX b).cpu.pc = s.cpu.pc := rfl
@[simp] theorem State.setX_cpu_p (s : State) (b : Byte) : (s.setX b).cpu.p = s.cpu.p := rfl
@[simp] theorem State.setX_cpu_stall (s : State) (b : Byte) : (s.setX b).cpu.stall = s.cpu.stall := rfl
@[simp] theorem State.setX_cpu_cyc (s : State) (b : Byte) : (s.setX b).cpu.cyc = s.cpu.cyc := rfl
@[simp] theorem State.setX_ppu (s : State) (b : Byte) : (s.setX b).ppu = s.ppu := rfl
@[simp] theorem State.setX_nmiLine (s : State) (b : Byte) : (s.setX b).nmiLine = s.nmiLine := rfl
@[simp] theorem State.setX_ram (s : State) (b : Byte) : (s.setX b).ram = s.ram := rfl
@[simp] theorem State.setX_pad1 (s : State) (b : Byte) : (s.setX b).pad1 = s.pad1 := rfl
@[simp] theorem State.setX_pad2 (s : State) (b : Byte) : (s.setX b).pad2 = s.pad2 := rfl
@[simp] theorem State.setX_cart (s : State) (b : Byte) : (s.setX b).cart = s.cart := rfl
@[simp] theorem State.setX_params (s : State) (b : Byte) : (s.setX b).params = s.params := rfl
@[simp] theorem State.setX_inputs (s : State) (b : Byte) : (s.setX b).inputs = s.inputs := rfl
@[simp] theorem State.setX_events (s : State) (b : Byte) : (s.setX b).events = s.events := rfl

@[simp] theorem State.setY_cpu_a (s : State) (b : Byte) : (s.setY b).cpu.a = s.cpu.a := rfl
@[simp] theorem State.setY_cpu_x (s : State) (b : Byte) : (s.setY b).cpu.x = s.cpu.x := rfl
@[simp] theorem State.setY_cpu_y (s : State) (b : Byte) : (s.setY b).cpu.y = b := rfl
@[simp] theorem State.setY_cpu_sp (s : State) (b : Byte) : (s.setY b).cpu.sp = s.cpu.sp := rfl
@[simp] theorem State.setY_cpu_pc (s : State) (b : Byte) : (s.setY b).cpu.pc = s.cpu.pc := rfl
@[simp] theorem State.setY_cpu_p (s : State) (b : Byte) : (s.setY b).cpu.p = s.cpu.p := rfl
@[simp] theorem State.setY_cpu_stall (s : State) (b : Byte) : (s.setY b).cpu.stall = s.cpu.stall := rfl
@[simp] theorem State.setY_cpu_cyc (s : State) (b : Byte) : (s.setY b).cpu.cyc = s.cpu.cyc := rfl
@[simp] theorem State.setY_ppu (s : State) (b : Byte) : (s.setY b).ppu = s.ppu := rfl
@[simp] theorem State.setY_nmiLine (s : State) (b : Byte) : (s.setY b).nmiLine = s.nmiLine := rfl
@[simp] theorem State.setY_ram (s : State) (b : Byte) : (s.setY b).ram = s.ram := rfl
@[simp] theorem State.setY_pad1 (s : State) (b : Byte) : (s.setY b).pad1 = s.pad1 := rfl
@[simp] theorem State.setY_pad2 (s : State) (b : Byte) : (s.setY b).pad2 = s.pad2 := rfl
@[simp] theorem State.setY_cart (s : State) (b : Byte) : (s.setY b).cart = s.cart := rfl
@[simp] theorem State.setY_params (s : State) (b : Byte) : (s.setY b).params = s.params := rfl
@[simp] theorem State.setY_inputs (s : State) (b : Byte) : (s.setY b).inputs = s.inputs := rfl
@[simp] theorem State.setY_events (s : State) (b : Byte) : (s.setY b).events = s.events := rfl

@[simp] theorem State.setSp_cpu_a (s : State) (b : Byte) : (s.setSp b).cpu.a = s.cpu.a := rfl
@[simp] theorem State.setSp_cpu_x (s : State) (b : Byte) : (s.setSp b).cpu.x = s.cpu.x := rfl
@[simp] theorem State.setSp_cpu_y (s : State) (b : Byte) : (s.setSp b).cpu.y = s.cpu.y := rfl
@[simp] theorem State.setSp_cpu_sp (s : State) (b : Byte) : (s.setSp b).cpu.sp = b := rfl
@[simp] theorem State.setSp_cpu_pc (s : State) (b : Byte) : (s.setSp b).cpu.pc = s.cpu.pc := rfl
@[simp] theorem State.setSp_cpu_p (s : State) (b : Byte) : (s.setSp b).cpu.p = s.cpu.p := rfl
@[simp] theorem State.setSp_cpu_stall (s : State) (b : Byte) : (s.setSp b).cpu.stall = s.cpu.stall := rfl
@[simp] theorem State.setSp_cpu_cyc (s : State) (b : Byte) : (s.setSp b).cpu.cyc = s.cpu.cyc := rfl
@[simp] theorem State.setSp_ppu (s : State) (b : Byte) : (s.setSp b).ppu = s.ppu := rfl
@[simp] theorem State.setSp_nmiLine (s : State) (b : Byte) : (s.setSp b).nmiLine = s.nmiLine := rfl
@[simp] theorem State.setSp_ram (s : State) (b : Byte) : (s.setSp b).ram = s.ram := rfl
@[simp] theorem State.setSp_pad1 (s : State) (b : Byte) : (s.setSp b).pad1 = s.pad1 := rfl
@[simp] theorem State.setSp_pad2 (s : State) (b : Byte) : (s.setSp b).pad2 = s.pad2 := rfl
@[simp] theorem State.setSp_cart (s : State) (b : Byte) : (s.setSp b).cart = s.cart := rfl
@[simp] theorem State.setSp_params (s : State) (b : Byte) : (s.setSp b).params = s.params := rfl
@[simp] theorem State.setSp_inputs (s : State) (b : Byte) : (s.setSp b).inputs = s.inputs := rfl
@[simp] theorem State.setSp_events (s : State) (b : Byte) : (s.setSp b).events = s.events := rfl

@[simp] theorem State.setP_cpu_a (s : State) (b : Byte) : (s.setP b).cpu.a = s.cpu.a := rfl
@[simp] theorem State.setP_cpu_x (s : State) (b : Byte) : (s.setP b).cpu.x = s.cpu.x := rfl
@[simp] theorem State.setP_cpu_y (s : State) (b : Byte) : (s.setP b).cpu.y = s.cpu.y := rfl
@[simp] theorem State.setP_cpu_sp (s : State) (b : Byte) : (s.setP b).cpu.sp = s.cpu.sp := rfl
@[simp] theorem State.setP_cpu_pc (s : State) (b : Byte) : (s.setP b).cpu.pc = s.cpu.pc := rfl
@[simp] theorem State.setP_cpu_p (s : State) (b : Byte) : (s.setP b).cpu.p = b := rfl
@[simp] theorem State.setP_cpu_stall (s : State) (b : Byte) : (s.setP b).cpu.stall = s.cpu.stall := rfl
@[simp] theorem State.setP_cpu_cyc (s : State) (b : Byte) : (s.setP b).cpu.cyc = s.cpu.cyc := rfl
@[simp] theorem State.setP_ppu (s : State) (b : Byte) : (s.setP b).ppu = s.ppu := rfl
@[simp] theorem State.setP_nmiLine (s : State) (b : Byte) : (s.setP b).nmiLine = s.nmiLine := rfl
@[simp] theorem State.setP_ram (s : State) (b : Byte) : (s.setP b).ram = s.ram := rfl
@[simp] theorem State.setP_pad1 (s : State) (b : Byte) : (s.setP b).pad1 = s.pad1 := rfl
@[simp] theorem State.setP_pad2 (s : State) (b : Byte) : (s.setP b).pad2 = s.pad2 := rfl
@[simp] theorem State.setP_cart (s : State) (b : Byte) : (s.setP b).cart = s.cart := rfl
@[simp] theorem State.setP_params (s : State) (b : Byte) : (s.setP b).params = s.params := rfl
@[simp] theorem State.setP_inputs (s : State) (b : Byte) : (s.setP b).inputs = s.inputs := rfl
@[simp] theorem State.setP_events (s : State) (b : Byte) : (s.setP b).events = s.events := rfl

@[simp] theorem State.setPc_cpu_a (s : State) (w : Word) : (s.setPc w).cpu.a = s.cpu.a := rfl
@[simp] theorem State.setPc_cpu_x (s : State) (w : Word) : (s.setPc w).cpu.x = s.cpu.x := rfl
@[simp] theorem State.setPc_cpu_y (s : State) (w : Word) : (s.setPc w).cpu.y = s.cpu.y := rfl
@[simp] theorem State.setPc_cpu_sp (s : State) (w : Word) : (s.setPc w).cpu.sp = s.cpu.sp := rfl
@[simp] theorem State.setPc_cpu_pc (s : State) (w : Word) : (s.setPc w).cpu.pc = w := rfl
@[simp] theorem State.setPc_cpu_p (s : State) (w : Word) : (s.setPc w).cpu.p = s.cpu.p := rfl
@[simp] theorem State.setPc_cpu_stall (s : State) (w : Word) : (s.setPc w).cpu.stall = s.cpu.stall := rfl
@[simp] theorem State.setPc_cpu_cyc (s : State) (w : Word) : (s.setPc w).cpu.cyc = s.cpu.cyc := rfl
@[simp] theorem State.setPc_ppu (s : State) (w : Word) : (s.setPc w).ppu = s.ppu := rfl
@[simp] theorem State.setPc_nmiLine (s : State) (w : Word) : (s.setPc w).nmiLine = s.nmiLine := rfl
@[simp] theorem State.setPc_ram (s : State) (w : Word) : (s.setPc w).ram = s.ram := rfl
@[simp] theorem State.setPc_pad1 (s : State) (w : Word) : (s.setPc w).pad1 = s.pad1 := rfl
@[simp] theorem State.setPc_pad2 (s : State) (w : Word) : (s.setPc w).pad2 = s.pad2 := rfl
@[simp] theorem State.setPc_cart (s : State) (w : Word) : (s.setPc w).cart = s.cart := rfl
@[simp] theorem State.setPc_params (s : State) (w : Word) : (s.setPc w).params = s.params := rfl
@[simp] theorem State.setPc_inputs (s : State) (w : Word) : (s.setPc w).inputs = s.inputs := rfl
@[simp] theorem State.setPc_events (s : State) (w : Word) : (s.setPc w).events = s.events := rfl

@[simp] theorem State.addStall_cpu_a (s : State) (n : Nat) : (s.addStall n).cpu.a = s.cpu.a := rfl
@[simp] theorem State.addStall_cpu_x (s : State) (n : Nat) : (s.addStall n).cpu.x = s.cpu.x := rfl
@[simp] theorem State.addStall_cpu_y (s : State) (n : Nat) : (s.addStall n).cpu.y = s.cpu.y := rfl
@[simp] theorem State.addStall_cpu_sp (s : State) (n : Nat) : (s.addStall n).cpu.sp = s.cpu.sp := rfl
@[simp] theorem State.addStall_cpu_pc (s : State) (n : Nat) : (s.addStall n).cpu.pc = s.cpu.pc := rfl
@[simp] theorem State.addStall_cpu_p (s : State) (n : Nat) : (s.addStall n).cpu.p = s.cpu.p := rfl
@[simp] theorem State.addStall_cpu_stall (s : State) (n : Nat) : (s.addStall n).cpu.stall = s.cpu.stall + n := rfl
@[simp] theorem State.addStall_cpu_cyc (s : State) (n : Nat) : (s.addStall n).cpu.cyc = s.cpu.cyc := rfl
@[simp] theorem State.addStall_ppu (s : State) (n : Nat) : (s.addStall n).ppu = s.ppu := rfl
@[simp] theorem State.addStall_nmiLine (s : State) (n : Nat) : (s.addStall n).nmiLine = s.nmiLine := rfl
@[simp] theorem State.addStall_ram (s : State) (n : Nat) : (s.addStall n).ram = s.ram := rfl
@[simp] theorem State.addStall_pad1 (s : State) (n : Nat) : (s.addStall n).pad1 = s.pad1 := rfl
@[simp] theorem State.addStall_pad2 (s : State) (n : Nat) : (s.addStall n).pad2 = s.pad2 := rfl
@[simp] theorem State.addStall_cart (s : State) (n : Nat) : (s.addStall n).cart = s.cart := rfl
@[simp] theorem State.addStall_params (s : State) (n : Nat) : (s.addStall n).params = s.params := rfl
@[simp] theorem State.addStall_inputs (s : State) (n : Nat) : (s.addStall n).inputs = s.inputs := rfl
@[simp] theorem State.addStall_events (s : State) (n : Nat) : (s.addStall n).events = s.events := rfl

@[simp] theorem State.setPpu_cpu_a (s : State) (q : Ppu) : (s.setPpu q).cpu.a = s.cpu.a := rfl
@[simp] theorem State.setPpu_cpu_x (s : State) (q : Ppu) : (s.setPpu q).cpu.x = s.cpu.x := rfl
@[simp] theorem State.setPpu_cpu_y (s : State) (q : Ppu) : (s.setPpu q).cpu.y = s.cpu.y := rfl
@[simp] theorem State.setPpu_cpu_sp (s : State) (q : Ppu) : (s.setPpu q).cpu.sp = s.cpu.sp := rfl
@[simp] theorem State.setPpu_cpu_pc (s : State) (q : Ppu) : (s.setPpu q).cpu.pc = s.cpu.pc := rfl
@[simp] theorem State.setPpu_cpu_p (s : State) (q : Ppu) : (s.setPpu q).cpu.p = s.cpu.p := rfl
@[simp] theorem State.setPpu_cpu_stall (s : State) (q : Ppu) : (s.setPpu q).cpu.stall = s.cpu.stall := rfl
@[simp] theorem State.setPpu_cpu_cyc (s : State) (q : Ppu) : (s.setPpu q).cpu.cyc = s.cpu.cyc := rfl
@[simp] theorem State.setPpu_ppu (s : State) (q : Ppu) : (s.setPpu q).ppu = q := rfl
@[simp] theorem State.setPpu_nmiLine (s : State) (q : Ppu) : (s.setPpu q).nmiLine = s.nmiLine := rfl
@[simp] theorem State.setPpu_ram (s : State) (q : Ppu) : (s.setPpu q).ram = s.ram := rfl
@[simp] theorem State.setPpu_pad1 (s : State) (q : Ppu) : (s.setPpu q).pad1 = s.pad1 := rfl
@[simp] theorem State.setPpu_pad2 (s : State) (q : Ppu) : (s.setPpu q).pad2 = s.pad2 := rfl
@[simp] theorem State.setPpu_cart (s : State) (q : Ppu) : (s.setPpu q).cart = s.cart := rfl
@[simp] theorem State.setPpu_params (s : State) (q : Ppu) : (s.setPpu q).params = s.params := rfl
@[simp] theorem State.setPpu_inputs (s : State) (q : Ppu) : (s.setPpu q).inputs = s.inputs := rfl
@[simp] theorem State.setPpu_events (s : State) (q : Ppu) : (s.setPpu q).events = s.events := rfl

@[simp] theorem State.setFlag_cpu_a (s : State) (f : Flag) (on : Bool) : (s.setFlag f on).cpu.a = s.cpu.a := rfl
@[simp] theorem State.setFlag_cpu_x (s : State) (f : Flag) (on : Bool) : (s.setFlag f on).cpu.x = s.cpu.x := rfl
@[simp] theorem State.setFlag_cpu_y (s : State) (f : Flag) (on : Bool) : (s.setFlag f on).cpu.y = s.cpu.y := rfl
@[simp] theorem State.setFlag_cpu_sp (s : State) (f : Flag) (on : Bool) : (s.setFlag f on).cpu.sp = s.cpu.sp := rfl
@[simp] theorem State.setFlag_cpu_pc (s : State) (f : Flag) (on : Bool) : (s.setFlag f on).cpu.pc = s.cpu.pc := rfl
@[simp] theorem State.setFlag_cpu_p (s : State) (f : Flag) (on : Bool) : (s.setFlag f on).cpu.p = Machine.setFlag s.cpu.p f on := rfl
@[simp] theorem State.setFlag_cpu_stall (s : State) (f : Flag) (on : Bool) : (s.setFlag f on).cpu.stall = s.cpu.stall := rfl
@[simp] theorem State.setFlag_cpu_cyc (s : State) (f : Flag) (on : Bool) : (s.setFlag f on).cpu.cyc = s.cpu.cyc := rfl
@[simp] theorem State.setFlag_ppu (s : State) (f : Flag) (on : Bool) : (s.setFlag f on).ppu = s.ppu := rfl
@[simp] theorem State.setFlag_nmiLine (s : State) (f : Flag) (on : Bool) : (s.setFlag f on).nmiLine = s.nmiLine := rfl
@[simp] theorem State.setFlag_ram (s : State) (f : Flag) (on : Bool) : (s.setFlag f on).ram = s.ram := rfl
@[simp] theorem State.setFlag_pad1 (s : State) (f : Flag) (on : Bool) : (s.setFlag f on).pad1 = s.pad1 := rfl
@[simp] theorem State.setFlag_pad2 (s : State) (f : Flag) (on : Bool) : (s.setFlag f on).pad2 = s.pad2 := rfl
@[simp] theorem State.setFlag_cart (s : State) (f : Flag) (on : Bool) : (s.setFlag f on).cart = s.cart := rfl
@[simp] theorem State.setFlag_params (s : State) (f : Flag) (on : Bool) : (s.setFlag f on).params = s.params := rfl
@[simp] theorem State.setFlag_inputs (s : State) (f : Flag) (on : Bool) : (s.setFlag f on).inputs = s.inputs := rfl
@[simp] theorem State.setFlag_events (s : State) (f : Flag) (on : Bool) : (s.setFlag f on).events = s.events := rfl

@[simp] theorem State.setZN_cpu_a (s : State) (r : Byte) : (s.setZN r).cpu.a = s.cpu.a := rfl
@[simp] theorem State.setZN_cpu_x (s : State) (r : Byte) : (s.setZN r).cpu.x = s.cpu.x := rfl
@[simp] theorem State.setZN_cpu_y (s : State) (r : Byte) : (s.setZN r).cpu.y = s.cpu.y := rfl
@[simp] theorem State.setZN_cpu_sp (s : State) (r : Byte) : (s.setZN r).cpu.sp = s.cpu.sp := rfl
@[simp] theorem State.setZN_cpu_pc (s : State) (r : Byte) : (s.setZN r).cpu.pc = s.cpu.pc := rfl
@[simp] theorem State.setZN_cpu_p (s : State) (r : Byte) : (s.setZN r).cpu.p = flagsZN s.cpu.p r := rfl
@[simp] theorem State.setZN_cpu_stall (s : State) (r : Byte) : (s.setZN r).cpu.stall = s.cpu.stall := rfl
@[simp] theorem State.setZN_cpu_cyc (s : State) (r : Byte) : (s.setZN r).cpu.cyc = s.cpu.cyc := rfl
@[simp] theorem State.setZN_ppu (s : State) (r : Byte) : (s.setZN r).ppu = s.ppu := rfl
@[simp] theorem State.setZN_nmiLine (s : State) (r : Byte) : (s.setZN r).nmiLine = s.nmiLine := rfl
@[simp] theorem State.setZN_ram (s : State) (r : Byte) : (s.setZN r).ram = s.ram := rfl
@[simp] theorem State.setZN_pad1 (s : State) (r : Byte) : (s.setZN r).pad1 = s.pad1 := rfl
@[simp] theorem State.setZN_pad2 (s : State) (r : Byte) : (s.setZN r).pad2 = s.pad2 := rfl
@[simp] theorem State.setZN_cart (s : State) (r : Byte) : (s.setZN r).cart = s.cart := rfl
@[simp] theorem State.setZN_params (s : State) (r : Byte) : (s.setZN r).params = s.params := rfl
@[simp] theorem State.setZN_inputs (s : State) (r : Byte) : (s.setZN r).inputs = s.inputs := rfl
@[simp] theorem State.setZN_events (s : State) (r : Byte) : (s.setZN r).events = s.events := rfl

@[simp] theorem State.compare_cpu_a (s : State) (r m : Byte) : (s.compare r m).cpu.a = s.cpu.a := rfl
@[simp] theorem State.compare_cpu_x (s : State) (r m : Byte) : (s.compare r m).cpu.x = s.cpu.x := rfl
@[simp] theorem State.compare_cpu_y (s : State) (r m : Byte) : (s.compare r m).cpu.y = s.cpu.y := rfl
@[simp] theorem State.compare_cpu_sp (s : State) (r m : Byte) : (s.compare r m).cpu.sp = s.cpu.sp := rfl
@[simp] theorem State.compare_cpu_pc (s : State) (r m : Byte) : (s.compare r m).cpu.pc = s.cpu.pc := rfl
@[simp] theorem State.compare_cpu_p (s : State) (r m : Byte) : (s.compare r m).cpu.p = flagsCompare s.cpu.p r m := rfl
@[simp] theorem State.compare_cpu_stall (s : State) (r m : Byte) : (s.compare r m).cpu.stall = s.cpu.stall := rfl
@[simp] theorem State.compare_cpu_cyc (s : State) (r m : Byte) : (s.compare r m).cpu.cyc = s.cpu.cyc := rfl
@[simp] theorem State.compare_ppu (s : State) (r m : Byte) : (s.compare r m).ppu = s.ppu := rfl
@[simp] theorem State.compare_nmiLine (s : State) (r m : Byte) : (s.compare r m).nmiLine = s.nmiLine := rfl
@[simp] theorem State.compare_ram (s : State) (r m : Byte) : (s.compare r m).ram = s.ram := rfl
@[simp] theorem State.compare_pad1 (s : State) (r m : Byte) : (s.compare r m).pad1 = s.pad1 := rfl
@[simp] theorem State.compare_pad2 (s : State) (r m : Byte) : (s.compare r m).pad2 = s.pad2 := rfl
@[simp] theorem State.compare_cart (s : State) (r m : Byte) : (s.compare r m).cart = s.cart := rfl
@[simp] theorem State.compare_params (s : State) (r m : Byte) : (s.compare r m).params = s.params := rfl
@[simp] theorem State.compare_inputs (s : State) (r m : Byte) : (s.compare r m).inputs = s.inputs := rfl
@[simp] theorem State.compare_events (s : State) (r m : Byte) : (s.compare r m).events = s.events := rfl

@[simp] theorem State.addCore_cpu_a (s : State) (m : Byte) : (s.addCore m).cpu.a = addResult s.cpu.a m (s.flag .c) := rfl
@[simp] theorem State.addCore_cpu_x (s : State) (m : Byte) : (s.addCore m).cpu.x = s.cpu.x := rfl
@[simp] theorem State.addCore_cpu_y (s : State) (m : Byte) : (s.addCore m).cpu.y = s.cpu.y := rfl
@[simp] theorem State.addCore_cpu_sp (s : State) (m : Byte) : (s.addCore m).cpu.sp = s.cpu.sp := rfl
@[simp] theorem State.addCore_cpu_pc (s : State) (m : Byte) : (s.addCore m).cpu.pc = s.cpu.pc := rfl
@[simp] theorem State.addCore_cpu_p (s : State) (m : Byte) : (s.addCore m).cpu.p = flagsAdd s.cpu.p s.cpu.a m := rfl
@[simp] theorem State.addCore_cpu_stall (s : State) (m : Byte) : (s.addCore m).cpu.stall = s.cpu.stall := rfl
@[simp] theorem State.addCore_cpu_cyc (s : State) (m : Byte) : (s.addCore m).cpu.cyc = s.cpu.cyc := rfl
@[simp] theorem State.addCore_ppu (s : State) (m : Byte) : (s.addCore m).ppu = s.ppu := rfl
@[simp] theorem State.addCore_nmiLine (s : State) (m : Byte) : (s.addCore m).nmiLine = s.nmiLine := rfl
@[simp] theorem State.addCore_ram (s : State) (m : Byte) : (s.addCore m).ram = s.ram := rfl
@[simp] theorem State.addCore_pad1 (s : State) (m : Byte) : (s.addCore m).pad1 = s.pad1 := rfl
@[simp] theorem State.addCore_pad2 (s : State) (m : Byte) : (s.addCore m).pad2 = s.pad2 := rfl
@[simp] theorem State.addCore_cart (s : State) (m : Byte) : (s.addCore m).cart = s.cart := rfl
@[simp] theorem State.addCore_params (s : State) (m : Byte) : (s.addCore m).params = s.params := rfl
@[simp] theorem State.addCore_inputs (s : State) (m : Byte) : (s.addCore m).inputs = s.inputs := rfl
@[simp] theorem State.addCore_events (s : State) (m : Byte) : (s.addCore m).events = s.events := rfl

@[simp] theorem State.emit_cpu_a (s : State) (e : Event) : (s.emit e).cpu.a = s.cpu.a := rfl
@[simp] theorem State.emit_cpu_x (s : State) (e : Event) : (s.emit e).cpu.x = s.cpu.x := rfl
@[simp] theorem State.emit_cpu_y (s : State) (e : Event) : (s.emit e).cpu.y = s.cpu.y := rfl
@[simp] theorem State.emit_cpu_sp (s : State) (e : Event) : (s.emit e).cpu.sp = s.cpu.sp := rfl
@[simp] theorem State.emit_cpu_pc (s : State) (e : Event) : (s.emit e).cpu.pc = s.cpu.pc := rfl
@[simp] theorem State.emit_cpu_p (s : State) (e : Event) : (s.emit e).cpu.p = s.cpu.p := rfl
@[simp] theorem State.emit_cpu_stall (s : State) (e : Event) : (s.emit e).cpu.stall = s.cpu.stall := rfl
@[simp] theorem State.emit_cpu_cyc (s : State) (e : Event) : (s.emit e).cpu.cyc = s.cpu.cyc := rfl
@[simp] theorem State.emit_ppu (s : State) (e : Event) : (s.emit e).ppu = s.ppu := rfl
@[simp] theorem State.emit_nmiLine (s : State) (e : Event) : (s.emit e).nmiLine = s.nmiLine := rfl
@[simp] theorem State.emit_ram (s : State) (e : Event) : (s.emit e).ram = s.ram := rfl
@[simp] theorem State.emit_pad1 (s : State) (e : Event) : (s.emit e).pad1 = s.pad1 := rfl
@[simp] theorem State.emit_pad2 (s : State) (e : Event) : (s.emit e).pad2 = s.pad2 := rfl
@[simp] theorem State.emit_cart (s : State) (e : Event) : (s.emit e).cart = s.cart := rfl
@[simp] theorem State.emit_params (s : State) (e : Event) : (s.emit e).params = s.params := rfl
@[simp] theorem State.emit_inputs (s : State) (e : Event) : (s.emit e).inputs = s.inputs := rfl
@[simp] theorem State.emit_events (s : State) (e : Event) : (s.emit e).events = e :: s.events := rfl

@[simp] theorem State.countCycle_cpu_a (s : State) : s.countCycle.cpu.a = s.cpu.a := rfl
@[simp] theorem State.countCycle_cpu_x (s : State) : s.countCycle.cpu.x = s.cpu.x := rfl
@[simp] theorem State.countCycle_cpu_y (s : State) : s.countCycle.cpu.y = s.cpu.y := rfl
@[simp] theorem State.countCycle_cpu_sp (s : State) : s.countCycle.cpu.sp = s.cpu.sp := rfl
@[simp] theorem State.countCycle_cpu_pc (s : State) : s.countCycle.cpu.pc = s.cpu.pc := rfl
@[simp] theorem State.countCycle_cpu_p (s : State) : s.countCycle.cpu.p = s.cpu.p := rfl
@[simp] theorem State.countCycle_cpu_stall (s : State) : s.countCycle.cpu.stall = s.cpu.stall := rfl
@[simp] theorem State.countCycle_cpu_cyc (s : State) : s.countCycle.cpu.cyc = s.cpu.cyc + 1 := rfl
@[simp] theorem State.countCycle_ppu (s : State) : s.countCycle.ppu = s.ppu := rfl
@[simp] theorem State.countCycle_nmiLine (s : State) : s.countCycle.nmiLine = s.nmiLine := rfl
@[simp] theorem State.countCycle_ram (s : State) : s.countCycle.ram = s.ram := rfl
@[simp] theorem State.countCycle_pad1 (s : State) : s.countCycle.pad1 = s.pad1 := rfl
@[simp] theorem State.countCycle_pad2 (s : State) : s.countCycle.pad2 = s.pad2 := rfl
@[simp] theorem State.countCycle_cart (s : State) : s.countCycle.cart = s.cart := rfl
@[simp] theorem State.countCycle_params (s : State) : s.countCycle.params = s.params := rfl
@[simp] theorem State.countCycle_inputs (s : State) : s.countCycle.inputs = s.inputs := rfl
@[simp] theorem State.countCycle_events (s : State) : s.countCycle.events = s.events := rfl

@[simp] theorem State.setV_cpu_a (s : State) (v : VramAddr) : (s.setV v).cpu.a = s.cpu.a := rfl
@[simp] theorem State.setV_cpu_x (s : State) (v : VramAddr) : (s.setV v).cpu.x = s.cpu.x := rfl
@[simp] theorem State.setV_cpu_y (s : State) (v : VramAddr) : (s.setV v).cpu.y = s.cpu.y := rfl
@[simp] theorem State.setV_cpu_sp (s : State) (v : VramAddr) : (s.setV v).cpu.sp = s.cpu.sp := rfl
@[simp] theorem State.setV_cpu_pc (s : State) (v : VramAddr) : (s.setV v).cpu.pc = s.cpu.pc := rfl
@[simp] theorem State.setV_cpu_p (s : State) (v : VramAddr) : (s.setV v).cpu.p = s.cpu.p := rfl
@[simp] theorem State.setV_cpu_stall (s : State) (v : VramAddr) : (s.setV v).cpu.stall = s.cpu.stall := rfl
@[simp] theorem State.setV_cpu_cyc (s : State) (v : VramAddr) : (s.setV v).cpu.cyc = s.cpu.cyc := rfl
@[simp] theorem State.setV_nmiLine (s : State) (v : VramAddr) : (s.setV v).nmiLine = s.nmiLine := rfl
@[simp] theorem State.setV_ram (s : State) (v : VramAddr) : (s.setV v).ram = s.ram := rfl
@[simp] theorem State.setV_pad1 (s : State) (v : VramAddr) : (s.setV v).pad1 = s.pad1 := rfl
@[simp] theorem State.setV_pad2 (s : State) (v : VramAddr) : (s.setV v).pad2 = s.pad2 := rfl
@[simp] theorem State.setV_cart (s : State) (v : VramAddr) : (s.setV v).cart = s.cart := rfl
@[simp] theorem State.setV_params (s : State) (v : VramAddr) : (s.setV v).params = s.params := rfl
@[simp] theorem State.setV_inputs (s : State) (v : VramAddr) : (s.setV v).inputs = s.inputs := rfl
@[simp] theorem State.setV_events (s : State) (v : VramAddr) : (s.setV v).events = s.events := rfl
@[simp] theorem State.setV_ppu (s : State) (v : VramAddr) : (s.setV v).ppu = { s.ppu with v := v } := rfl

@[simp] theorem State.setPpu_self (s : State) : s.setPpu s.ppu = s := rfl
@[simp] theorem State.setPpu_setPpu (s : State) (q r : Ppu) : (s.setPpu q).setPpu r = s.setPpu r := rfl
@[simp] theorem State.flag_eq (s : State) (f : Flag) : s.flag f = getFlag s.cpu.p f := rfl

end Sys2Proof.Machine
end

