-- ==== Sys2Proof/Laws/Bus.lean ====
section
/-! SUPPORT. Laws of the two buses: what a read can change, when a write can fail, and the invariant that both keep. -/

namespace Sys2Proof.Machine

/-- Everything a CPU bus read leaves alone: only `status`, `w`, `v`, `readBuffer` of the PPU and the two controllers can change. -/
abbrev ReadFrame (s t : State) : Prop :=
  t = { s with
    ppu := { s.ppu with status := t.ppu.status, w := t.ppu.w, v := t.ppu.v, readBuffer := t.ppu.readBuffer }
    pad1 := t.pad1
    pad2 := t.pad2 }

theorem ReadFrame.refl (s : State) : ReadFrame s s := rfl

theorem ReadFrame.trans {s t u : State} (h : ReadFrame s t) (k : ReadFrame t u) : ReadFrame s u := by
  unfold ReadFrame at *
  rw [k, h]

theorem ppuPortRead_frame (p : PpuPort) (s : State) : ReadFrame s (ppuPortRead p s).2 := by
  cases p <;> simp only [ppuPortRead, statusRead, dataRead]
  all_goals first | exact ReadFrame.refl s | rfl | (split <;> rfl)

theorem memRead_frame (addr : Word) (s : State) : ReadFrame s (memRead addr s).2 := by
  unfold memRead
  split
  case h_2 => exact ppuPortRead_frame _ s
  all_goals rfl

/-- A read frame keeps the CPU. -/
theorem ReadFrame.cpu {s t : State} (h : ReadFrame s t) : t.cpu = s.cpu := by rw [h]

theorem ReadFrame.ram {s t : State} (h : ReadFrame s t) : t.ram = s.ram := by rw [h]

theorem ReadFrame.cart {s t : State} (h : ReadFrame s t) : t.cart = s.cart := by rw [h]

theorem ReadFrame.params {s t : State} (h : ReadFrame s t) : t.params = s.params := by rw [h]

theorem ReadFrame.inputs {s t : State} (h : ReadFrame s t) : t.inputs = s.inputs := by rw [h]

theorem ReadFrame.events {s t : State} (h : ReadFrame s t) : t.events = s.events := by rw [h]

theorem ReadFrame.nmiLine {s t : State} (h : ReadFrame s t) : t.nmiLine = s.nmiLine := by rw [h]

@[simp] theorem memRead_cpu (addr : Word) (s : State) : (memRead addr s).2.cpu = s.cpu := (memRead_frame addr s).cpu
@[simp] theorem memRead_ram (addr : Word) (s : State) : (memRead addr s).2.ram = s.ram := (memRead_frame addr s).ram
@[simp] theorem memRead_cart (addr : Word) (s : State) : (memRead addr s).2.cart = s.cart := (memRead_frame addr s).cart
@[simp] theorem memRead_params (addr : Word) (s : State) : (memRead addr s).2.params = s.params := (memRead_frame addr s).params
@[simp] theorem memRead_inputs (addr : Word) (s : State) : (memRead addr s).2.inputs = s.inputs := (memRead_frame addr s).inputs
@[simp] theorem memRead_events (addr : Word) (s : State) : (memRead addr s).2.events = s.events := (memRead_frame addr s).events
@[simp] theorem memRead_nmiLine (addr : Word) (s : State) : (memRead addr s).2.nmiLine = s.nmiLine := (memRead_frame addr s).nmiLine

/-- A read of work RAM (R61, R63). -/
theorem memRead_of_ram {addr : Word} {k : Nat} (h : cpuDecode addr = .ram k) (s : State) :
    memRead addr s = (Memory.read .ram s.ram k, s) := by
  unfold memRead
  rw [h]

/-- A read of program ROM (R61, R65). -/
theorem memRead_of_prg {addr : Word} {k : Nat} (h : cpuDecode addr = .prg k) (s : State) :
    memRead addr s = (s.cart.prgByte k, s) := by
  unfold memRead
  rw [h]

/-- The RAM index that a decoded address selects is inside the block. -/
theorem cpuDecode_ram_lt {addr : Word} {k : Nat} (h : cpuDecode addr = .ram k) : k < 0x800 := by
  simp only [cpuDecode] at h
  split at h
  · injection h with h
    omega
  · repeat' split at h
    all_goals exact absurd h (by simp)

/-- The low addresses decode to RAM. -/
theorem cpuDecode_of_ram {addr : Word} (h : addr.toNat ≤ 0x1FFF) : cpuDecode addr = .ram (addr.toNat % 0x800) := by
  simp only [cpuDecode, if_pos h]

theorem Word.ofBytes_toNat (hi lo : Byte) : (Word.ofBytes hi lo).toNat = hi.toNat * 256 + lo.toNat := by
  rw [Word.ofBytes, BitVec.toNat_append, Nat.shiftLeft_eq, ← Nat.shiftLeft_eq, ← Nat.shiftLeft_add_eq_or_of_lt lo.isLt,
    Nat.shiftLeft_eq]

/-- The stack slot is RAM (R22). -/
theorem cpuDecode_stackSlot (sp : Byte) : cpuDecode (stackSlot sp) = .ram (0x100 + sp.toNat) := by
  have h : (stackSlot sp).toNat = 0x100 + sp.toNat := by simp [stackSlot, Word.ofBytes_toNat]
  have := sp.isLt
  rw [cpuDecode_of_ram (by omega), h, Nat.mod_eq_of_lt (by omega)]

/-- A write of work RAM (R62, R63). -/
theorem memWrite_of_ram {addr : Word} {k : Nat} (h : cpuDecode addr = .ram k) (b : Byte) (s : State) :
    memWrite addr b s = .ok { s with ram := Memory.write .ram s.ram k b } := by
  unfold memWrite
  rw [h]

/-- A push always succeeds: it writes one byte of page 1 (R160). -/
theorem push8_eq (b : Byte) (s : State) :
    push8 b s = .ok ({ s with ram := Memory.write .ram s.ram (0x100 + s.cpu.sp.toNat) b }.setSp (s.cpu.sp - 1#8)) := by
  unfold push8
  rw [memWrite_of_ram (cpuDecode_stackSlot _)]
  rfl

/-- A 16-bit push writes its high byte, then its low byte below it (R162). -/
theorem push16_eq (w : Word) (s : State) :
    push16 w s = .ok ({ s with
      ram := Memory.write .ram (Memory.write .ram s.ram (0x100 + s.cpu.sp.toNat) w.hi)
        (0x100 + (s.cpu.sp - 1#8).toNat) w.lo }.setSp (s.cpu.sp - 1#8 - 1#8)) := by
  unfold push16
  rw [push8_eq]
  exact push8_eq ..

/-- A pull reads the byte of page 1 above the pointer (R161). -/
theorem pull8_eq (s : State) :
    pull8 s = (Memory.read .ram s.ram (0x100 + (s.cpu.sp + 1#8).toNat), s.setSp (s.cpu.sp + 1#8)) :=
  memRead_of_ram (cpuDecode_stackSlot _) _

/-- A 16-bit pull reads the low byte first (R163). -/
theorem pull16_eq (s : State) :
    pull16 s = (Word.ofBytes (Memory.read .ram s.ram (0x100 + (s.cpu.sp + 1#8 + 1#8).toNat))
      (Memory.read .ram s.ram (0x100 + (s.cpu.sp + 1#8).toNat)), s.setSp (s.cpu.sp + 1#8 + 1#8)) := by
  unfold pull16
  rw [pull8_eq]
  dsimp only
  rw [pull8_eq]
  rfl

/-- The vectors lie in program ROM, so reading one has no side effect (R67). -/
theorem read16_of_prg {a : Word} {k l : Nat} (h : cpuDecode a = .prg k) (h' : cpuDecode (a + 1#16) = .prg l) (s : State) :
    read16 a s = (Word.ofBytes (s.cart.prgByte l) (s.cart.prgByte k), s) := by
  unfold read16
  rw [memRead_of_prg h]
  dsimp only
  rw [memRead_of_prg h']

/-- A PPU bus write fails only under `ROM_WRITE_POLICY = fault`, with a ROM fault; else it changes nametable or palette RAM alone. -/
theorem ppuWrite_cases (s : State) (addr : Word) (b : Byte) :
    (∃ m, ppuWrite s addr b = .ok (s.setPpu { s.ppu with vram := m })) ∨
      (∃ m, ppuWrite s addr b = .ok (s.setPpu { s.ppu with palette := m })) ∨
      (s.params.romWritePolicy = .fault ∧ ∃ a, ppuWrite s addr b = .error (.romWrite a)) := by
  unfold ppuWrite
  split
  · split
    · exact .inr (.inr ⟨by assumption, _, rfl⟩)
    · exact .inl ⟨s.ppu.vram, rfl⟩
  · exact .inl ⟨_, rfl⟩
  · exact .inr (.inl ⟨_, rfl⟩)

/-- What a write to a PPU port leaves alone: everything outside the PPU, and the PPU's position and pipelines. -/
abbrev PortFrame (s t : State) : Prop :=
  t = s.setPpu { s.ppu with
    ctrl := t.ppu.ctrl, mask := t.ppu.mask, oamAddr := t.ppu.oamAddr, v := t.ppu.v, t := t.ppu.t, w := t.ppu.w
    vram := t.ppu.vram, palette := t.ppu.palette, oam := t.ppu.oam }

theorem ppuPortWrite_cases (p : PpuPort) (b : Byte) (s : State) :
    (∃ t, ppuPortWrite p b s = .ok t ∧ PortFrame s t) ∨
      (s.params.romWritePolicy = .fault ∧ ∃ a, ppuPortWrite p b s = .error (.romWrite a)) := by
  cases p
  case data =>
    simp only [ppuPortWrite, dataWrite]
    rcases ppuWrite_cases s (dataAddress s.ppu) b with ⟨m, h⟩ | ⟨m, h⟩ | ⟨hp, a, h⟩
    · exact .inl ⟨_, by rw [h]; rfl, rfl⟩
    · exact .inl ⟨_, by rw [h]; rfl, rfl⟩
    · exact .inr ⟨hp, a, by rw [h]; rfl⟩
  case scroll => exact .inl ⟨_, rfl, by simp only [scrollWrite]; split <;> rfl⟩
  case address => exact .inl ⟨_, rfl, by simp only [addressWrite]; split <;> rfl⟩
  all_goals exact .inl ⟨_, rfl, rfl⟩

/-- What the OAM DMA leaves alone: a read frame, and it writes OAM and adds stall. -/
abbrev DmaFrame (s t : State) : Prop :=
  t = { s with
    cpu := { s.cpu with stall := t.cpu.stall }
    ppu := { s.ppu with
      status := t.ppu.status, w := t.ppu.w, v := t.ppu.v, readBuffer := t.ppu.readBuffer, oam := t.ppu.oam }
    pad1 := t.pad1
    pad2 := t.pad2 }

theorem DmaFrame.trans {s t u : State} (h : DmaFrame s t) (k : DmaFrame t u) : DmaFrame s u := by
  unfold DmaFrame at *
  rw [k, h]

theorem oamDmaByte_frame (page : Byte) (s : State) (i : Nat) : DmaFrame s (oamDmaByte page s i) := by
  unfold oamDmaByte DmaFrame
  have h := memRead_frame (Word.ofBytes page (BitVec.ofNat 8 i)) s
  unfold ReadFrame at h
  dsimp only
  rw [h]
  rfl

theorem oamDma_fold_frame (page : Byte) (l : List Nat) (s : State) : DmaFrame s (l.foldl (oamDmaByte page) s) := by
  induction l generalizing s with
  | nil => rfl
  | cons i l ih => exact DmaFrame.trans (oamDmaByte_frame page s i) (ih _)

theorem oamDma_frame (page : Byte) (s : State) : DmaFrame s (oamDma page s) := by
  have h := oamDma_fold_frame page (List.range 256) s
  unfold DmaFrame at h ⊢
  unfold oamDma
  rw [h]
  rfl

/-- Everything a CPU bus write can do: it changes RAM, or a PPU port, or runs the DMA, or writes a controller, or has no effect; or it
is a ROM write under `ROM_WRITE_POLICY = fault`. -/
theorem memWrite_cases (addr : Word) (b : Byte) (s : State) :
    (∃ k, cpuDecode addr = .ram k ∧ memWrite addr b s = .ok { s with ram := Memory.write .ram s.ram k b }) ∨
      (∃ p t, cpuDecode addr = .ppuPort p ∧ ppuPortWrite p b s = .ok t ∧ memWrite addr b s = .ok t ∧ PortFrame s t) ∨
      (cpuDecode addr = .oamDma ∧ memWrite addr b s = .ok (oamDma b s)) ∨
      (cpuDecode addr = .pad1 ∧ memWrite addr b s = .ok { s with pad1 := s.pad1.write b }) ∨
      (cpuDecode addr = .pad2 ∧ memWrite addr b s = .ok { s with pad2 := s.pad2.write b }) ∨
      memWrite addr b s = .ok s ∨
      (s.params.romWritePolicy = .fault ∧ ∃ a, memWrite addr b s = .error (.romWrite a)) := by
  unfold memWrite
  split
  case h_1 k h => exact .inl ⟨k, h, rfl⟩
  case h_2 p h =>
    rcases ppuPortWrite_cases p b s with ⟨t, h1, h2⟩ | ⟨hp, a, h1⟩
    · exact .inr (.inl ⟨p, t, h, h1, h1, h2⟩)
    · exact .inr (.inr (.inr (.inr (.inr (.inr ⟨hp, a, h1⟩)))))
  case h_3 h => exact .inr (.inr (.inl ⟨h, rfl⟩))
  case h_4 h => exact .inr (.inr (.inr (.inr (.inr (.inl rfl)))))
  case h_5 h => exact .inr (.inr (.inr (.inl ⟨h, rfl⟩)))
  case h_6 h => exact .inr (.inr (.inr (.inr (.inl ⟨h, rfl⟩))))
  case h_7 h => exact .inr (.inr (.inr (.inr (.inr (.inl rfl)))))
  case h_8 h =>
    split
    · exact .inr (.inr (.inr (.inr (.inr (.inr ⟨by assumption, _, rfl⟩)))))
    · exact .inr (.inr (.inr (.inr (.inr (.inl rfl)))))

/-- Under `ROM_WRITE_POLICY = ignore` every write succeeds (R62). -/
theorem memWrite_ignore {s : State} (h : s.params.romWritePolicy = .ignore) (addr : Word) (b : Byte) :
    ∃ t, memWrite addr b s = .ok t := by
  rcases memWrite_cases addr b s with ⟨_, _, h'⟩ | ⟨_, _, _, _, h', _⟩ | ⟨_, h'⟩ | ⟨_, h'⟩ | ⟨_, h'⟩ | h' | ⟨h', _⟩
  all_goals first | exact ⟨_, h'⟩ | (rw [h] at h'; contradiction)

/-- A write changes no register but the stall, and neither the cartridge, the parameters, the inputs, the output nor the line. -/
theorem memWrite_frame {addr : Word} {b : Byte} {s t : State} (h : memWrite addr b s = .ok t) :
    t.cpu = { s.cpu with stall := t.cpu.stall } ∧ t.cart = s.cart ∧ t.params = s.params ∧ t.inputs = s.inputs ∧
      t.events = s.events ∧ t.nmiLine = s.nmiLine := by
  rcases memWrite_cases addr b s with ⟨_, _, k⟩ | ⟨_, u, _, _, k, f⟩ | ⟨_, k⟩ | ⟨_, k⟩ | ⟨_, k⟩ | k | ⟨_, _, k⟩ <;>
    rw [h] at k <;> cases k
  · exact ⟨rfl, rfl, rfl, rfl, rfl, rfl⟩
  · rw [f]; exact ⟨rfl, rfl, rfl, rfl, rfl, rfl⟩
  · rw [oamDma_frame b s]
    exact ⟨rfl, rfl, rfl, rfl, rfl, rfl⟩
  all_goals exact ⟨rfl, rfl, rfl, rfl, rfl, rfl⟩

/-- A bus read does not look at the CPU. -/
theorem memRead_withCpu (addr : Word) (s : State) (c : Cpu) :
    memRead addr { s with cpu := c } = ((memRead addr s).1, { (memRead addr s).2 with cpu := c }) := by
  unfold memRead
  split <;> try rfl
  rename_i p _
  cases p <;> try rfl
  simp only [ppuPortRead, dataRead]
  split <;> rfl

/-- A PPU bus write does not look at the CPU. -/
theorem ppuWrite_withCpu (addr : Word) (b : Byte) (s : State) (c : Cpu) :
    ppuWrite { s with cpu := c } addr b = (ppuWrite s addr b).map fun t => { t with cpu := c } := by
  unfold ppuWrite
  split
  · dsimp only
    split <;> rfl
  · rfl
  · rfl

theorem oamDma_fold_withCpu (page : Byte) (l : List Nat) (s : State) (c : Cpu) :
    l.foldl (oamDmaByte page) { s with cpu := c } = { l.foldl (oamDmaByte page) s with cpu := c } := by
  induction l generalizing s with
  | nil => rfl
  | cons i l ih =>
    have h : oamDmaByte page { s with cpu := c } i = { oamDmaByte page s i with cpu := c } := by
      unfold oamDmaByte
      rw [memRead_withCpu]
      rfl
    rw [List.foldl_cons, List.foldl_cons, h, ih]

/-- A bus write does not look at the CPU, and changes of it that leave the stall apart can be made before or after. -/
theorem memWrite_mapCpu (addr : Word) (b : Byte) (s : State) (f : Cpu → Cpu)
    (hf : ∀ c n, f { c with stall := c.stall + n } = { f c with stall := (f c).stall + n }) :
    memWrite addr b { s with cpu := f s.cpu } = (memWrite addr b s).map fun t => { t with cpu := f t.cpu } := by
  unfold memWrite
  split
  case h_2 p h =>
    cases p <;> try rfl
    simp only [ppuPortWrite, dataWrite, ppuWrite_withCpu]
    rcases ppuWrite_cases s (dataAddress s.ppu) b with ⟨m, k⟩ | ⟨m, k⟩ | ⟨hp, a, k⟩ <;>
      (rw [k]; rfl)
  case h_3 h =>
    unfold oamDma
    rw [oamDma_fold_withCpu]
    have e : (List.foldl (oamDmaByte b) s (List.range 256)).cpu = s.cpu := by
      have h := oamDma_fold_withCpu b (List.range 256) s s.cpu
      have h := congrArg (fun t : State => t.cpu) h
      exact h
    simp only [Except.map, State.addStall, e, hf]
  case h_8 h => dsimp only; split <;> rfl
  all_goals rfl

end Sys2Proof.Machine
end

