-- ==== Sys2Proof/Laws/Encoding.lean ====
section
/-! SUPPORT. Laws of the encoding: the opcode matrix is total, a cell and an instruction's table row name each other, and words are
their two bytes. -/

namespace Sys2Proof

/-- There are sixteen rows of sixteen cells (R105), so the fallback of `shapeOf` is never used. -/
theorem matrix_is_total : matrix.length = 16 ∧ ∀ n < 16, (matrix.getD n []).length = 16 := by
  refine ⟨rfl, fun n hn => ?_⟩
  have : n = 0 ∨ n = 1 ∨ n = 2 ∨ n = 3 ∨ n = 4 ∨ n = 5 ∨ n = 6 ∨ n = 7 ∨ n = 8 ∨ n = 9 ∨ n = 10 ∨ n = 11 ∨ n = 12 ∨ n = 13 ∨
    n = 14 ∨ n = 15 := by omega
  rcases this with rfl | rfl | rfl | rfl | rfl | rfl | rfl | rfl | rfl | rfl | rfl | rfl | rfl | rfl | rfl | rfl <;> rfl

@[simp] theorem Word.ofBytes_hi_lo (w : Word) : Word.ofBytes w.hi w.lo = w := by
  apply BitVec.eq_of_toNat_eq
  have := w.isLt
  rw [Machine.Word.ofBytes_toNat]
  simp only [Word.hi, Word.lo, BitVec.extractLsb'_toNat, Nat.shiftRight_eq_div_pow]
  omega

@[simp] theorem Word.hi_ofBytes (hi lo : Byte) : (Word.ofBytes hi lo).hi = hi := by
  apply BitVec.eq_of_toNat_eq
  have := hi.isLt
  have := lo.isLt
  simp only [Word.hi, BitVec.extractLsb'_toNat, Nat.shiftRight_eq_div_pow, Machine.Word.ofBytes_toNat]
  omega

@[simp] theorem Word.lo_ofBytes (hi lo : Byte) : (Word.ofBytes hi lo).lo = lo := by
  apply BitVec.eq_of_toNat_eq
  have := hi.isLt
  have := lo.isLt
  simp only [Word.lo, BitVec.extractLsb'_toNat, Nat.shiftRight_eq_div_pow, Machine.Word.ofBytes_toNat]
  omega

/-- The instruction a cell makes of an operand, if the operand has as many bytes as the cell wants. -/
def Shape.build : Shape → Operand → Option Instr
  | .alone i, .none | .alone i, .implied | .alone i, .accumulator => some i
  | .withByte f, .immediate b | .withByte f, .zeroPage b | .withByte f, .zeroPageX b | .withByte f, .zeroPageY b
  | .withByte f, .relative b | .withByte f, .indexedIndirect b | .withByte f, .indirectIndexed b => some (f b)
  | .withWord f, .absolute w | .withWord f, .absoluteX w | .withWord f, .absoluteY w | .withWord f, .indirect w => some (f w)
  | _, _ => none

/-- The cell of an instruction's own opcode gives the instruction back from its operand. -/
theorem shapeOf_opcode (i : Instr) : (shapeOf i.row.opcode).build i.operand = some i := by
  cases i <;> (simp only [Instr.row]; rfl)

/-- What a cell of the matrix must be: an instruction whose table row has the cell's opcode and whose operand bytes are the ones read. -/
def Shape.fits (opcode : Byte) : Shape → Prop
  | .alone i => i.row.opcode = opcode ∧ i.operand.bytes = []
  | .withByte f => ∀ b, (f b).row.opcode = opcode ∧ (f b).operand.bytes = [b]
  | .withWord f => ∀ w, (f w).row.opcode = opcode ∧ (f w).operand.bytes = [w.lo, w.hi]

/-- Sixteen cells of one row fit their opcodes. -/
theorem matrix_row_fits (r : Nat) (hr : r < 16) (c : Nat) (hc : c < 16) :
    (shapeOf (BitVec.ofNat 8 (16 * r + c))).fits (BitVec.ofNat 8 (16 * r + c)) := by
  have hr : r = 0 ∨ r = 1 ∨ r = 2 ∨ r = 3 ∨ r = 4 ∨ r = 5 ∨ r = 6 ∨ r = 7 ∨ r = 8 ∨ r = 9 ∨ r = 10 ∨ r = 11 ∨ r = 12 ∨ r = 13 ∨
    r = 14 ∨ r = 15 := by omega
  have hc : c = 0 ∨ c = 1 ∨ c = 2 ∨ c = 3 ∨ c = 4 ∨ c = 5 ∨ c = 6 ∨ c = 7 ∨ c = 8 ∨ c = 9 ∨ c = 10 ∨ c = 11 ∨ c = 12 ∨ c = 13 ∨
    c = 14 ∨ c = 15 := by omega
  rcases hr with rfl | rfl | rfl | rfl | rfl | rfl | rfl | rfl | rfl | rfl | rfl | rfl | rfl | rfl | rfl | rfl <;>
    rcases hc with rfl | rfl | rfl | rfl | rfl | rfl | rfl | rfl | rfl | rfl | rfl | rfl | rfl | rfl | rfl | rfl <;>
    first | exact And.intro rfl rfl | exact fun _ => And.intro rfl rfl

/-- Every cell of the matrix fits its opcode (R105). -/
theorem shapeOf_fits (opcode : Byte) : (shapeOf opcode).fits opcode := by
  have h := matrix_row_fits (opcode.toNat / 16) (by have := opcode.isLt; omega) (opcode.toNat % 16) (by omega)
  rw [Nat.div_add_mod, BitVec.ofNat_toNat, BitVec.setWidth_eq] at h
  exact h

end Sys2Proof
end

