-- ==== Sys2Proof/Laws/Execute.lean ====
section
/-! SUPPORT. Laws of the resolver, of `execute` and of the shapes of the semantic routines: every instruction that has a table row is
`execute` of its mnemonic's routine. -/

namespace Sys2Proof.Machine

/-- The semantic routine of a mnemonic; a halt slot has none, and its entry here is never used. -/
def routineOf : Mnemonic → Routine
  | .lda => ldaRoutine
  | .ldx => ldxRoutine
  | .ldy => ldyRoutine
  | .sta => staRoutine
  | .stx => stxRoutine
  | .sty => styRoutine
  | .tax => taxRoutine
  | .tay => tayRoutine
  | .tsx => tsxRoutine
  | .txa => txaRoutine
  | .txs => txsRoutine
  | .tya => tyaRoutine
  | .adc => adcRoutine
  | .sbc => sbcRoutine
  | .and => andRoutine
  | .ora => oraRoutine
  | .eor => eorRoutine
  | .cmp => cmpRoutine
  | .cpx => cpxRoutine
  | .cpy => cpyRoutine
  | .bit => bitRoutine
  | .inc => incRoutine
  | .dec => decRoutine
  | .inx => inxRoutine
  | .iny => inyRoutine
  | .dex => dexRoutine
  | .dey => deyRoutine
  | .asl => aslRoutine
  | .lsr => lsrRoutine
  | .rol => rolRoutine
  | .ror => rorRoutine
  | .jmp => jmpRoutine
  | .jsr => jsrRoutine
  | .rts => rtsRoutine
  | .rti => rtiRoutine
  | .brk => brkRoutine
  | .bcc => bccRoutine
  | .bcs => bcsRoutine
  | .beq => beqRoutine
  | .bmi => bmiRoutine
  | .bne => bneRoutine
  | .bpl => bplRoutine
  | .bvc => bvcRoutine
  | .bvs => bvsRoutine
  | .pha => phaRoutine
  | .php => phpRoutine
  | .pla => plaRoutine
  | .plp => plpRoutine
  | .clc => clcRoutine
  | .cld => cldRoutine
  | .cli => cliRoutine
  | .clv => clvRoutine
  | .sec => secRoutine
  | .sed => sedRoutine
  | .sei => seiRoutine
  | .nop => nopRoutine
  | .lax => laxRoutine
  | .sax => saxRoutine
  | .dcp => dcpRoutine
  | .isb => isbRoutine
  | .slo => sloRoutine
  | .rla => rlaRoutine
  | .sre => sreRoutine
  | .rra => rraRoutine
  | .anc => ancRoutine
  | .alr => alrRoutine
  | .arr => arrRoutine
  | .axs => axsRoutine
  | .las => lasRoutine
  | .xaa => xaaRoutine
  | .lxa => lxaRoutine
  | .ahx => ahxRoutine
  | .shy => shyRoutine
  | .shx => shxRoutine
  | .tas => tasRoutine
  | .kil => nopRoutine

/-- Every instruction runs its mnemonic's routine, if its row executes (R131). -/
theorem exec_eq_execute (i : Instr) (s : State) : exec i s = execute i (routineOf i.row.mnemonic) s := by
  cases i <;> rfl

/-- A halt slot stops (R293). -/
theorem exec_of_halt (i : Instr) (s : State) (h : i.row.tier = .halt) :
    exec i s = .fault (.unknownOpcode i.row.opcode s.cpu.pc) := by
  rw [exec_eq_execute]
  simp [execute, rowExecutes, h]

/-- Only a halt slot has the placeholder mnemonic. -/
theorem tier_eq_halt_iff (i : Instr) : i.row.tier = .halt ↔ i.row.mnemonic = .kil := by
  cases i <;> first | exact ⟨fun _ => rfl, fun _ => rfl⟩ | exact ⟨nofun, nofun⟩

/-- The operand form is the table row's mode. -/
theorem mode_eq (i : Instr) : i.operand.mode = i.row.mode := by cases i <;> rfl

/-- The length is the opcode byte and the operand bytes of the row's mode (R100, R101). -/
theorem length_eq (i : Instr) : i.length = 1 + i.row.mode.operandBytes := by cases i <;> rfl

/-- The resolver makes bus reads only. -/
theorem resolve_frame (o : Operand) (s : State) : ReadFrame s (resolve o s).2 := by
  cases o
  case indirect w => exact (memRead_frame _ s).trans (memRead_frame _ _)
  case indexedIndirect b => exact (memRead_frame _ s).trans (memRead_frame _ _)
  case indirectIndexed b => exact (memRead_frame _ s).trans (memRead_frame _ _)
  all_goals exact ReadFrame.refl s

theorem resolvedAt_frame (i : Instr) (s : State) : ReadFrame (s.setPc (nextPc i s)) (resolvedAt i s) := resolve_frame ..

theorem operandReadAt_frame (i : Instr) (s : State) : ReadFrame (s.setPc (nextPc i s)) (operandReadAt i s) := by
  unfold operandReadAt
  split
  · exact (resolvedAt_frame i s).trans (memRead_frame _ _)
  · exact resolvedAt_frame i s
  · exact resolvedAt_frame i s

/-- After the resolver the CPU is unchanged but for the PC, which stands after the instruction. -/
@[simp] theorem resolvedAt_cpu (i : Instr) (s : State) : (resolvedAt i s).cpu = { s.cpu with pc := nextPc i s } :=
  (resolvedAt_frame i s).cpu

@[simp] theorem operandReadAt_cpu (i : Instr) (s : State) : (operandReadAt i s).cpu = { s.cpu with pc := nextPc i s } :=
  (operandReadAt_frame i s).cpu

@[simp] theorem resolvedAt_params (i : Instr) (s : State) : (resolvedAt i s).params = s.params := (resolvedAt_frame i s).params

@[simp] theorem operandReadAt_params (i : Instr) (s : State) : (operandReadAt i s).params = s.params :=
  (operandReadAt_frame i s).params

@[simp] theorem resolvedAt_ram (i : Instr) (s : State) : (resolvedAt i s).ram = s.ram := (resolvedAt_frame i s).ram

@[simp] theorem resolvedAt_cart (i : Instr) (s : State) : (resolvedAt i s).cart = s.cart := (resolvedAt_frame i s).cart

/-- What a mode resolves to (R140 to R152): nothing, a literal or an address. -/
def Mode.resolvesTo : Mode → Resolved → Prop
  | .none, r | .implied, r | .accumulator, r => r = .none
  | .immediate, r => ∃ b, r = .value b
  | .zeroPage, r | .zeroPageX, r | .zeroPageY, r | .relative, r | .absolute, r | .absoluteX, r | .absoluteY, r | .indirect, r
  | .indexedIndirect, r | .indirectIndexed, r => ∃ ea, r = .address ea

theorem resolve_operand (o : Operand) (s : State) : Mode.resolvesTo o.mode (resolve o s).1.operand := by
  cases o
  case none => rfl
  case implied => rfl
  case accumulator => rfl
  all_goals exact ⟨_, rfl⟩

theorem operandsAt_operand (i : Instr) (s : State) : Mode.resolvesTo i.row.mode (operandsAt i s).operand := by
  rw [← mode_eq]
  exact resolve_operand ..

/-- `execute` of a row that executes, by the outcome of its routine. -/
theorem execute_eq (i : Instr) (r : Routine) (s : State) (h : rowExecutes i.row s.params = true) :
    execute i r s = match r i.row (operandsAt i s) (resolvedAt i s) with
      | .error f => .fault f
      | .ok (extra, t) => .next (t.addStall (cost i.row (operandsAt i s) extra - 1)) := by
  simp only [execute, h, if_true, operandsAt, resolvedAt] <;> rfl

/-- `execute` of a row that does not execute (R411). -/
theorem execute_gated (i : Instr) (r : Routine) (s : State) (h : rowExecutes i.row s.params = false) :
    execute i r s = .fault (.unknownOpcode i.row.opcode s.cpu.pc) := by
  simp [execute, h]

theorem reading_eq {f : Byte → State → State} (i : Instr) (s : State) (h : (operandsAt i s).operand ≠ .none) :
    reading f i.row (operandsAt i s) (resolvedAt i s) = .ok (0, f (operandValueAt i s) (operandReadAt i s)) := by
  unfold reading readOperand operandValueAt operandReadAt
  split <;> simp_all

theorem immediateOnly_eq {f : Byte → State → State} (i : Instr) (s : State) {b : Byte}
    (h : (operandsAt i s).operand = .value b) :
    immediateOnly f i.row (operandsAt i s) (resolvedAt i s) = .ok (0, f b (resolvedAt i s)) := by
  unfold immediateOnly immediateValue
  rw [h]
  rfl

theorem storing_eq {v : State → Byte} (i : Instr) (s : State) {ea : Word} (h : (operandsAt i s).operand = .address ea) :
    storing v i.row (operandsAt i s) (resolvedAt i s) =
      match memWrite ea (v (resolvedAt i s)) (resolvedAt i s) with
      | .error f => .error f
      | .ok t => .ok (0, t) := by
  unfold storing effectiveAddress
  rw [h]
  dsimp only [bind, Except.bind]
  generalize memWrite _ _ _ = x
  cases x <;> rfl

theorem modifying_eq {f : Byte → State → Byte × State} {g : Byte → State → State} (i : Instr) (s : State) {ea : Word}
    (h : (operandsAt i s).operand = .address ea) :
    modifying f g i.row (operandsAt i s) (resolvedAt i s) =
      match memWrite ea (f (operandValueAt i s) (operandReadAt i s)).1 (f (operandValueAt i s) (operandReadAt i s)).2 with
      | .error e => .error e
      | .ok t => .ok (0, g (f (operandValueAt i s) (operandReadAt i s)).1 t) := by
  unfold modifying effectiveAddress operandValueAt operandReadAt
  rw [h]
  dsimp only [bind, Except.bind]
  generalize memWrite _ _ _ = x
  cases x <;> rfl

theorem storeHi_eq (reg idx : Byte) (row : Row) (ops : Operands) (s : State) {ea : Word} (h : ops.operand = .address ea) :
    storeHi reg idx row ops s =
      match memWrite (storeHiAddress ops.pageCrossed reg idx ea) (storeHiValue reg idx ea) s with
      | .error f => .error f
      | .ok t => .ok (0, t) := by
  unfold storeHi effectiveAddress
  rw [h]
  dsimp only [bind, Except.bind]
  generalize memWrite _ _ _ = x
  cases x <;> rfl

/-- The three vectors lie in program ROM. -/
theorem cpuDecode_vectors :
    cpuDecode nmiVector = .prg 0x7FFA ∧ cpuDecode (nmiVector + 1#16) = .prg 0x7FFB ∧ cpuDecode resetVector = .prg 0x7FFC ∧
      cpuDecode (resetVector + 1#16) = .prg 0x7FFD ∧ cpuDecode brkVector = .prg 0x7FFE ∧
      cpuDecode (brkVector + 1#16) = .prg 0x7FFF := by decide

/-- Taking an interrupt always succeeds: three pushes, I set, the PC from the vector (R402, R234). -/
theorem takeInterrupt_eq {vector : Word} {k l : Nat} (h : cpuDecode vector = .prg k) (h' : cpuDecode (vector + 1#16) = .prg l)
    (returnTo : Word) (status : Byte) (s : State) :
    takeInterrupt returnTo status vector s = .ok ({ s with
      ram := Memory.write .ram (Memory.write .ram (Memory.write .ram s.ram (0x100 + s.cpu.sp.toNat) returnTo.hi)
        (0x100 + (s.cpu.sp - 1#8).toNat) returnTo.lo) (0x100 + (s.cpu.sp - 1#8 - 1#8).toNat) status
      cpu := { s.cpu with
        sp := s.cpu.sp - 1#8 - 1#8 - 1#8
        p := setFlag s.cpu.p .i true
        pc := Word.ofBytes (s.cart.prgByte l) (s.cart.prgByte k) } }) := by
  unfold takeInterrupt
  rw [push16_eq]
  dsimp only [bind, Except.bind]
  rw [push8_eq]
  dsimp only
  rw [read16_of_prg h h']
  rfl

/-- The return from an interrupt, in terms of the bytes of page 1 (R233). -/
theorem returnFromInterrupt_eq (s : State) :
    returnFromInterrupt s = { s with cpu := { s.cpu with
      sp := s.cpu.sp + 1#8 + 1#8 + 1#8
      p := restoredStatus (Memory.read .ram s.ram (0x100 + (s.cpu.sp + 1#8).toNat))
      pc := Word.ofBytes (Memory.read .ram s.ram (0x100 + (s.cpu.sp + 1#8 + 1#8 + 1#8).toNat))
        (Memory.read .ram s.ram (0x100 + (s.cpu.sp + 1#8 + 1#8).toNat)) } } := by
  unfold returnFromInterrupt
  rw [pull8_eq]
  dsimp only
  rw [pull16_eq]
  rfl

end Sys2Proof.Machine
end

