-- ==== Sys2Proof/Laws/Invariant.lean ====
section
/-! SUPPORT. The invariant is kept by every bus access, by every semantic routine, by taking an interrupt and by the reset sequence. -/

namespace Sys2Proof.Machine

theorem Ppu.Inv.oam {q : Ppu} (h : q.Inv) : Memory.wf .oam q.oam := h.2.2.2.2.2.2.1
theorem Ppu.Inv.vram {q : Ppu} (h : q.Inv) : Memory.wf .vram q.vram := h.2.2.2.2.1
theorem Ppu.Inv.palette {q : Ppu} (h : q.Inv) : Memory.wf .palette q.palette := h.2.2.2.2.2.1
theorem Ppu.Inv.secOam {q : Ppu} (h : q.Inv) : Memory.wf .secOam q.secOam := h.2.2.2.2.2.2.2.1

/-- Another OAM in canonical form keeps the PPU's invariant. -/
theorem Ppu.Inv.withOam {q : Ppu} (h : q.Inv) {m : Memory} (hm : Memory.wf .oam m) : ({ q with oam := m } : Ppu).Inv :=
  ⟨h.1, h.2.1, h.2.2.1, h.2.2.2.1, h.2.2.2.2.1, h.2.2.2.2.2.1, hm, h.2.2.2.2.2.2.2⟩

theorem Ppu.Inv.withVram {q : Ppu} (h : q.Inv) {m : Memory} (hm : Memory.wf .vram m) : ({ q with vram := m } : Ppu).Inv :=
  ⟨h.1, h.2.1, h.2.2.1, h.2.2.2.1, hm, h.2.2.2.2.2⟩

theorem Ppu.Inv.withPalette {q : Ppu} (h : q.Inv) {m : Memory} (hm : Memory.wf .palette m) :
    ({ q with palette := m } : Ppu).Inv :=
  ⟨h.1, h.2.1, h.2.2.1, h.2.2.2.1, h.2.2.2.2.1, hm, h.2.2.2.2.2.2⟩

/-- Clearing bit 7 keeps the unused status bits clear. -/
theorem statusBits_clear {b : Byte} (h : b &&& 0x7F#8 = 0x00#8) : b &&& 0x7F#8 &&& 0x7F#8 = 0x00#8 := by rw [h]; rfl

theorem Ppu.Inv.clearStatus {q : Ppu} (h : q.Inv) : ({ q with status := q.status &&& 0x7F#8 } : Ppu).Inv :=
  ⟨statusBits_clear h.1, h.2⟩

theorem State.Inv.withPpu {s : State} (h : s.Inv) {q : Ppu} (hq : q.Inv) : (s.setPpu q).Inv := ⟨h.1, hq, h.2.2⟩

theorem State.Inv.withRam {s : State} (h : s.Inv) {m : Memory} (hm : Memory.wf .ram m) : ({ s with ram := m } : State).Inv :=
  ⟨h.1, h.2.1, hm, h.2.2.2⟩

theorem Controller.shiftFits_afterRead {c : Controller} (h : c.shiftFits) : c.afterRead.shiftFits := by
  unfold Controller.afterRead Controller.shiftFits at *
  split
  · exact h
  · split
    · dsimp only; omega
    · exact h

theorem Controller.shiftFits_write {c : Controller} (h : c.shiftFits) (b : Byte) : (c.write b).shiftFits := by
  unfold Controller.write Controller.shiftFits at *
  dsimp only
  split <;> omega

theorem ppuPortRead_inv (p : PpuPort) {s : State} (h : s.Inv) : (ppuPortRead p s).2.Inv := by
  cases p <;> simp only [ppuPortRead, statusRead, dataRead]
  case status => exact h.withPpu h.2.1.clearStatus
  case data => split <;> exact h.withPpu h.2.1
  all_goals exact h

theorem memRead_inv (addr : Word) {s : State} (h : s.Inv) : (memRead addr s).2.Inv := by
  unfold memRead
  split
  case h_2 => exact ppuPortRead_inv _ h
  case h_5 => exact ⟨h.1, h.2.1, h.2.2.1, h.2.2.2.1, Controller.shiftFits_afterRead h.2.2.2.2.1, h.2.2.2.2.2⟩
  case h_6 => exact ⟨h.1, h.2.1, h.2.2.1, h.2.2.2.1, h.2.2.2.2.1, Controller.shiftFits_afterRead h.2.2.2.2.2⟩
  all_goals exact h

theorem ppuDecode_vram_lt {addr : Word} {k : Nat} (h : ppuDecode addr = .vram k) : k < 0x800 := by
  simp only [ppuDecode, ntIndex] at h
  repeat' split at h
  all_goals first | (injection h with h; omega) | exact absurd h (by simp)

theorem palIndex_lt (a : Nat) : palIndex a < 0x20 := by
  unfold palIndex
  dsimp only
  split <;> omega

theorem ppuDecode_palette_lt {addr : Word} {k : Nat} (h : ppuDecode addr = .palette k) : k < 0x20 := by
  simp only [ppuDecode] at h
  repeat' split at h
  all_goals first | (injection h with h; exact h ▸ palIndex_lt _) | exact absurd h (by simp)

theorem ppuWrite_inv {s t : State} {addr : Word} {b : Byte} (h : s.Inv) (hw : ppuWrite s addr b = .ok t) : t.Inv := by
  unfold ppuWrite at hw
  split at hw
  · split at hw
    · exact absurd hw (by simp)
    · cases hw; exact h
  · rename_i k hk
    cases hw
    exact h.withPpu (h.2.1.withVram (Memory.wf_write b h.2.1.vram (ppuDecode_vram_lt hk)))
  · rename_i k hk
    cases hw
    exact h.withPpu (h.2.1.withPalette (Memory.wf_write b h.2.1.palette (ppuDecode_palette_lt hk)))

theorem ppuPortWrite_inv {p : PpuPort} {b : Byte} {s t : State} (h : s.Inv) (hw : ppuPortWrite p b s = .ok t) : t.Inv := by
  cases p
  case data =>
    simp only [ppuPortWrite, dataWrite] at hw
    cases hp : ppuWrite s (dataAddress s.ppu) b with
    | error f => rw [hp] at hw; exact absurd hw (by simp [bind, Except.bind])
    | ok u =>
      rw [hp] at hw
      cases hw
      exact (ppuWrite_inv h hp).withPpu (ppuWrite_inv h hp).2.1
  case scroll =>
    cases hw
    refine h.withPpu ?_
    unfold scrollWrite
    split <;> exact h.2.1
  case address =>
    cases hw
    refine h.withPpu ?_
    unfold addressWrite
    split <;> exact h.2.1
  case oamData =>
    cases hw
    exact h.withPpu (h.2.1.withOam (Memory.wf_write b h.2.1.oam s.ppu.oamAddr.isLt))
  all_goals cases hw; exact h

theorem oamDmaByte_inv (page : Byte) {s : State} (h : s.Inv) {i : Nat} (hi : i < 256) : (oamDmaByte page s i).Inv := by
  have k := memRead_inv (Word.ofBytes page (BitVec.ofNat 8 i)) h
  exact k.withPpu (k.2.1.withOam (Memory.wf_write _ k.2.1.oam hi))

theorem oamDma_inv (page : Byte) {s : State} (h : s.Inv) : (oamDma page s).Inv := by
  have key : ∀ (l : List Nat) (s : State), (∀ i ∈ l, i < 256) → s.Inv → (l.foldl (oamDmaByte page) s).Inv := by
    intro l
    induction l with
    | nil => exact fun s _ h => h
    | cons i l ih =>
      exact fun s hl h => ih _ (fun j hj => hl j (List.mem_cons_of_mem _ hj)) (oamDmaByte_inv page h (hl i (List.mem_cons_self ..)))
  exact key _ s (fun i hi => List.mem_range.1 hi) h

theorem memWrite_inv {addr : Word} {b : Byte} {s t : State} (h : s.Inv) (hw : memWrite addr b s = .ok t) : t.Inv := by
  rcases memWrite_cases addr b s with ⟨k, hk, e⟩ | ⟨p, u, _, hu, e, _⟩ | ⟨_, e⟩ | ⟨_, e⟩ | ⟨_, e⟩ | e | ⟨_, _, e⟩ <;>
    rw [hw] at e <;> cases e
  · exact h.withRam (Memory.wf_write b h.2.2.1 (cpuDecode_ram_lt hk))
  · exact ppuPortWrite_inv h hu
  · exact oamDma_inv b h
  · exact ⟨h.1, h.2.1, h.2.2.1, h.2.2.2.1, Controller.shiftFits_write h.2.2.2.2.1 b, h.2.2.2.2.2⟩
  · exact ⟨h.1, h.2.1, h.2.2.1, h.2.2.2.1, h.2.2.2.2.1, Controller.shiftFits_write h.2.2.2.2.2 b⟩
  · exact h

/-- A status byte with bits 5 and 4 right keeps the invariant. -/
theorem State.Inv.withP {s : State} (h : s.Inv) {p : Byte} (hu : getFlag p .u = true) (hb : getFlag p .b = false) :
    (s.setP p).Inv := ⟨⟨hu, hb⟩, h.2⟩

theorem State.Inv.setFlag {s : State} (h : s.Inv) {f : Flag} (on : Bool) (hu : f ≠ .u) (hb : f ≠ .b) : (s.setFlag f on).Inv :=
  h.withP (by rw [getFlag_setFlag, if_neg (Ne.symm hu)]; exact h.1.1) (by rw [getFlag_setFlag, if_neg (Ne.symm hb)]; exact h.1.2)

theorem State.Inv.setZN {s : State} (h : s.Inv) (r : Byte) : (s.setZN r).Inv :=
  h.withP (by rw [getFlag_flagsZN]; exact h.1.1) (by rw [getFlag_flagsZN]; exact h.1.2)

theorem State.Inv.addCore {s : State} (h : s.Inv) (m : Byte) : (s.addCore m).Inv :=
  State.Inv.withP (s := s) (p := flagsAdd s.cpu.p s.cpu.a m) h (by rw [getFlag_flagsAdd]; exact h.1.1)
    (by rw [getFlag_flagsAdd]; exact h.1.2)

theorem State.Inv.compare {s : State} (h : s.Inv) (r m : Byte) : (s.compare r m).Inv :=
  h.withP (by rw [getFlag_flagsCompare]; exact h.1.1) (by rw [getFlag_flagsCompare]; exact h.1.2)

theorem State.Inv.restored {s : State} (h : s.Inv) (b : Byte) : (s.setP (restoredStatus b)).Inv :=
  h.withP (by rw [getFlag_restoredStatus]) (by rw [getFlag_restoredStatus])

theorem pull8_inv {s : State} (h : s.Inv) : (pull8 s).2.Inv := by rw [pull8_eq]; exact h

theorem pull16_inv {s : State} (h : s.Inv) : (pull16 s).2.Inv := by rw [pull16_eq]; exact h

theorem push8_inv {b : Byte} {s t : State} (h : s.Inv) (hp : push8 b s = .ok t) : t.Inv := by
  rw [push8_eq] at hp
  cases hp
  exact h.withRam (Memory.wf_write b h.2.2.1 (by have := s.cpu.sp.isLt; simp only [Space.size]; omega))

theorem push16_inv {w : Word} {s t : State} (h : s.Inv) (hp : push16 w s = .ok t) : t.Inv := by
  unfold push16 at hp
  rw [push8_eq] at hp
  exact push8_inv (push8_inv h (push8_eq w.hi s)) hp

theorem takeInterrupt_inv {r vector : Word} {b : Byte} {s t : State} (h : s.Inv) (ht : takeInterrupt r b vector s = .ok t) :
    t.Inv := by
  unfold takeInterrupt at ht
  rw [push16_eq] at ht
  dsimp only [bind, Except.bind] at ht
  rw [push8_eq] at ht
  cases ht
  have h1 := push8_inv (push16_inv h (push16_eq r s)) (push8_eq b _)
  exact memRead_inv _ (memRead_inv _ (h1.setFlag true (by decide) (by decide)))

theorem returnFromInterrupt_inv {s : State} (h : s.Inv) : (returnFromInterrupt s).Inv :=
  pull16_inv (s := (pull8 s).2.setP _) ((pull8_inv h).restored _)

/-- Two computations in sequence that succeed both succeed. -/
theorem bind_ok {ε α β : Type} {x : Except ε α} {f : α → Except ε β} {b : β} (h : (x >>= f) = .ok b) :
    ∃ a, x = .ok a ∧ f a = .ok b := by
  cases x with
  | error e => cases h
  | ok a => exact ⟨a, rfl, h⟩

theorem nmiEntry_inv {s t : State} (h : s.Inv) (ht : nmiEntry s = .ok t) : t.Inv := by
  obtain ⟨u, hu, ht⟩ := bind_ok ht
  cases ht
  have k := takeInterrupt_inv (s := { s with nmiLine := false }) h hu
  exact k

/-- A routine keeps the invariant. -/
def KeepsInv (r : Routine) : Prop := ∀ row ops s n t, s.Inv → r row ops s = .ok (n, t) → t.Inv

theorem reading_inv {f : Byte → State → State} (hf : ∀ m s, s.Inv → (f m s).Inv) : KeepsInv (reading f) := by
  intro row ops s n t h hr
  unfold reading readOperand at hr
  split at hr
  · cases hr; exact hf _ _ h
  · cases hr; exact hf _ _ (memRead_inv _ h)
  · cases hr

theorem immediateOnly_inv {f : Byte → State → State} (hf : ∀ m s, s.Inv → (f m s).Inv) : KeepsInv (immediateOnly f) := by
  intro row ops s n t h hr
  unfold immediateOnly immediateValue at hr
  split at hr
  · cases hr; exact hf _ _ h
  · cases hr
  · cases hr

theorem registers_inv {f : State → State} (hf : ∀ s, s.Inv → (f s).Inv) : KeepsInv (registers f) := by
  intro row ops s n t h hr
  cases hr
  exact hf s h

theorem pushing_inv {f : State → Except Fault State} (hf : ∀ s t, s.Inv → f s = .ok t → t.Inv) : KeepsInv (pushing f) := by
  intro row ops s n t h hr
  obtain ⟨u, hu, hr⟩ := bind_ok hr
  cases hr
  exact hf s _ h hu

theorem storing_inv (v : State → Byte) : KeepsInv (storing v) := by
  intro row ops s n t h hr
  obtain ⟨ea, _, hr⟩ := bind_ok hr
  obtain ⟨u, hu, hr⟩ := bind_ok hr
  cases hr
  exact memWrite_inv h hu

theorem modifying_inv {f : Byte → State → Byte × State} {g : Byte → State → State} (hf : ∀ m s, s.Inv → (f m s).2.Inv)
    (hg : ∀ m s, s.Inv → (g m s).Inv) : KeepsInv (modifying f g) := by
  intro row ops s n t h hr
  obtain ⟨ea, _, hr⟩ := bind_ok hr
  obtain ⟨u, hu, hr⟩ := bind_ok hr
  cases hr
  exact hg _ _ (memWrite_inv (hf _ _ (memRead_inv ea h)) hu)

theorem shifting_inv {f : Byte → State → Byte × State} (hf : ∀ m s, s.Inv → (f m s).2.Inv) : KeepsInv (shifting f) := by
  intro row ops s n t h hr
  unfold shifting at hr
  split at hr
  · cases hr
    exact State.Inv.setZN (s := (f s.cpu.a s).2.setA (f s.cpu.a s).1) (hf s.cpu.a s h) _
  all_goals exact modifying_inv hf (fun m s h => h.setZN m) _ _ _ _ _ h hr

theorem branching_inv (f : Flag) (wanted : Bool) : KeepsInv (branching f wanted) := by
  intro row ops s n t h hr
  obtain ⟨ea, _, hr⟩ := bind_ok hr
  split at hr <;> cases hr <;> exact h

theorem storeHi_inv {reg idx : Byte} {row : Row} {ops : Operands} {s t : State} {n : Nat} (h : s.Inv)
    (hr : storeHi reg idx row ops s = .ok (n, t)) : t.Inv := by
  obtain ⟨ea, _, hr⟩ := bind_ok hr
  obtain ⟨u, hu, hr⟩ := bind_ok hr
  cases hr
  exact memWrite_inv h hu

theorem shiftLeft_inv (m : Byte) (s : State) (h : s.Inv) : (shiftLeft m s).2.Inv := h.setFlag _ (by decide) (by decide)
theorem shiftRight_inv (m : Byte) (s : State) (h : s.Inv) : (shiftRight m s).2.Inv := h.setFlag _ (by decide) (by decide)
theorem rotateLeft_inv (m : Byte) (s : State) (h : s.Inv) : (rotateLeft m s).2.Inv := h.setFlag _ (by decide) (by decide)
theorem rotateRight_inv (m : Byte) (s : State) (h : s.Inv) : (rotateRight m s).2.Inv := h.setFlag _ (by decide) (by decide)

/-- A change of registers that keeps bits 5 and 4 of the status byte keeps the invariant. -/
theorem State.Inv.of_cpu {s t : State} (h : s.Inv) (ht : t = { s with cpu := t.cpu })
    (hu : getFlag t.cpu.p .u = getFlag s.cpu.p .u) (hb : getFlag t.cpu.p .b = getFlag s.cpu.p .b) : t.Inv := by
  rw [ht]
  exact ⟨⟨hu.trans h.1.1, hb.trans h.1.2⟩, h.2⟩

/-- The routines that read an operand and write registers and flags. -/
theorem routineOf_inv_reading (m : Mnemonic)
    (hm : m ∈ [Mnemonic.lda, .ldx, .ldy, .lax, .adc, .sbc, .and, .ora, .eor, .cmp, .cpx, .cpy, .bit, .las]) :
    KeepsInv (routineOf m) := by
  simp only [List.mem_cons, List.not_mem_nil, or_false] at hm
  rcases hm with rfl | rfl | rfl | rfl | rfl | rfl | rfl | rfl | rfl | rfl | rfl | rfl | rfl | rfl <;>
    (simp only [routineOf, ldaRoutine, ldxRoutine, ldyRoutine, laxRoutine, adcRoutine, sbcRoutine, andRoutine,
        oraRoutine, eorRoutine, cmpRoutine, cpxRoutine, cpyRoutine, bitRoutine, lasRoutine]
     apply reading_inv; intro m s h; exact h.of_cpu rfl (by simp [znOf]) (by simp [znOf]))

/-- The routines that take an immediate only. -/
theorem routineOf_inv_immediate (m : Mnemonic) (hm : m ∈ [Mnemonic.anc, .alr, .arr, .axs, .xaa, .lxa]) :
    KeepsInv (routineOf m) := by
  simp only [List.mem_cons, List.not_mem_nil, or_false] at hm
  rcases hm with rfl | rfl | rfl | rfl | rfl | rfl <;>
    (simp only [routineOf, ancRoutine, alrRoutine, arrRoutine, axsRoutine, xaaRoutine, lxaRoutine]
     apply immediateOnly_inv; intro m s h; exact h.of_cpu rfl (by simp [znOf]) (by simp [znOf]))

/-- The routines that work on registers and flags alone. -/
theorem routineOf_inv_registers (m : Mnemonic)
    (hm : m ∈ [Mnemonic.tax, .tay, .tsx, .txa, .tya, .txs, .inx, .iny, .dex, .dey, .clc, .cld, .cli, .clv, .sec, .sed, .sei,
      .nop, .kil]) : KeepsInv (routineOf m) := by
  simp only [List.mem_cons, List.not_mem_nil, or_false] at hm
  rcases hm with rfl | rfl | rfl | rfl | rfl | rfl | rfl | rfl | rfl | rfl | rfl | rfl | rfl | rfl | rfl | rfl | rfl | rfl | rfl <;>
    (simp only [routineOf, taxRoutine, tayRoutine, tsxRoutine, txaRoutine, tyaRoutine, txsRoutine, inxRoutine,
        inyRoutine, dexRoutine, deyRoutine, clcRoutine, cldRoutine, cliRoutine, clvRoutine, secRoutine, sedRoutine,
        seiRoutine, nopRoutine]
     apply registers_inv; intro s h; exact h.of_cpu rfl (by simp [znOf]) (by simp [znOf]))

/-- The read-modify-write routines of the unofficial instructions, `INC`, `DEC` and the shifts. -/
theorem routineOf_inv_modifying (m : Mnemonic)
    (hm : m ∈ [Mnemonic.inc, .dec, .dcp, .isb, .slo, .rla, .sre, .rra, .asl, .lsr, .rol, .ror]) : KeepsInv (routineOf m) := by
  simp only [List.mem_cons, List.not_mem_nil, or_false] at hm
  rcases hm with rfl | rfl | rfl | rfl | rfl | rfl | rfl | rfl | rfl | rfl | rfl | rfl <;>
    simp only [routineOf, incRoutine, decRoutine, dcpRoutine, isbRoutine, sloRoutine, rlaRoutine, sreRoutine, rraRoutine,
      aslRoutine, lsrRoutine, rolRoutine, rorRoutine]
  case inl | inr.inl | inr.inr.inl | inr.inr.inr.inl =>
    exact modifying_inv (fun m s h => h) fun m s h => h.of_cpu rfl (by simp [znOf]) (by simp [znOf])
  · exact modifying_inv shiftLeft_inv fun m s h => h.of_cpu rfl (by simp [znOf]) (by simp [znOf])
  · exact modifying_inv rotateLeft_inv fun m s h => h.of_cpu rfl (by simp [znOf]) (by simp [znOf])
  · exact modifying_inv shiftRight_inv fun m s h => h.of_cpu rfl (by simp [znOf]) (by simp [znOf])
  · exact modifying_inv rotateRight_inv fun m s h => h.addCore m
  · exact shifting_inv shiftLeft_inv
  · exact shifting_inv shiftRight_inv
  · exact shifting_inv rotateLeft_inv
  · exact shifting_inv rotateRight_inv

/-- Every semantic routine keeps the invariant. -/
theorem routineOf_inv (m : Mnemonic) : KeepsInv (routineOf m) := by
  cases m
  case sta | stx | sty | sax => exact storing_inv _
  case jmp =>
    intro row ops s n t h hr
    simp only [routineOf, jmpRoutine] at hr
    obtain ⟨ea, _, hr⟩ := bind_ok hr
    cases hr
    exact h
  case jsr =>
    intro row ops s n t h hr
    simp only [routineOf, jsrRoutine] at hr
    obtain ⟨ea, _, hr⟩ := bind_ok hr
    obtain ⟨u, hu, hr⟩ := bind_ok hr
    cases hr
    have k := push16_inv h hu
    exact k
  case rts => exact registers_inv fun s h => pull16_inv h
  case rti => exact registers_inv fun s h => returnFromInterrupt_inv h
  case brk => exact pushing_inv fun s t h => takeInterrupt_inv h
  case pha => exact pushing_inv fun s t h => push8_inv h
  case php => exact pushing_inv fun s t h => push8_inv h
  case pla => exact registers_inv fun s h => State.Inv.setZN (s := (pull8 s).2.setA (pull8 s).1) (pull8_inv h) (pull8 s).1
  case plp => exact registers_inv fun s h => (pull8_inv h).restored (pull8 s).1
  case ahx | shy | shx => exact fun row ops s n t h hr => storeHi_inv h hr
  case tas => exact fun row ops s n t h hr => storeHi_inv (s := s.setSp (s.cpu.a &&& s.cpu.x)) h hr
  case bcc | bcs | beq | bmi | bne | bpl | bvc | bvs => exact branching_inv _ _
  all_goals
    first
    | exact routineOf_inv_registers _ (by decide)
    | exact routineOf_inv_reading _ (by decide)
    | exact routineOf_inv_immediate _ (by decide)
    | exact routineOf_inv_modifying _ (by decide)

theorem resolve_inv (o : Operand) {s : State} (h : s.Inv) : (resolve o s).2.Inv := by
  cases o
  case indirect w => exact memRead_inv _ (memRead_inv _ h)
  case indexedIndirect b => exact memRead_inv _ (memRead_inv _ h)
  case indirectIndexed b => exact memRead_inv _ (memRead_inv _ h)
  all_goals exact h

/-- Executing an instruction keeps the invariant. -/
theorem exec_inv {i : Instr} {s t : State} (h : s.Inv) (he : exec i s = .next t) : t.Inv := by
  rw [exec_eq_execute] at he
  unfold execute at he
  split at he
  · dsimp only at he
    split at he
    · cases he
    · rename_i hr
      cases he
      have k := routineOf_inv _ _ _ _ _ _ (resolve_inv _ (s := s.setPc (nextPc i s)) h) hr
      exact k
  · cases he

theorem fetch_inv {s : State} (h : s.Inv) : (fetch s).2.Inv := by
  unfold fetch
  dsimp only
  split
  · exact memRead_inv _ h
  · exact memRead_inv _ (memRead_inv _ h)
  · exact memRead_inv _ (memRead_inv _ (memRead_inv _ h))

theorem cpuAction_inv {s t : State} (h : s.Inv) (he : cpuAction s = .next t) : t.Inv := by
  unfold cpuAction at he
  split at he
  · cases he; exact h
  · split at he
    · split at he
      · cases he
      · rename_i hn
        cases he
        exact nmiEntry_inv h hn
    · exact exec_inv (fetch_inv h) he

end Sys2Proof.Machine
end

