-- ==== Sys2Proof/Laws/PerInstr.lean ====
section
/-! SUPPORT. A statement made for every instruction, one lemma per constructor: the form of its encoding and of its table row. -/

namespace Sys2Proof.Laws.EncodingForm

/-- The encoding of an instruction is its opcode byte and the operand bytes of its row's mode, and its row is well formed unless it is a
halt slot (R100, R101, R104). -/
def Statement (i : Instr) : Prop :=
  (encode i).length = i.length ∧ (encode i).head? = some i.row.opcode ∧ i.operand.mode = i.row.mode ∧
    (i.row.tier ≠ .halt → i.row.wellFormed = true)

/-- The statement from its parts. -/
theorem of_row {i : Instr} (h : i.operand.bytes.length = i.row.mode.operandBytes) (hm : i.operand.mode = i.row.mode)
    (hw : i.row.tier ≠ .halt → i.row.wellFormed = true) : Statement i :=
  ⟨by rw [encode, List.length_cons, h, Nat.add_comm]; rfl, rfl, hm, hw⟩

theorem ldaIzx (zp : Byte) : Statement (.ldaIzx zp) := of_row rfl rfl (fun _ => by simp only [Instr.row]; decide)
theorem ldaZp (zp : Byte) : Statement (.ldaZp zp) := of_row rfl rfl (fun _ => by simp only [Instr.row]; decide)
theorem ldaImm (imm : Byte) : Statement (.ldaImm imm) := of_row rfl rfl (fun _ => by simp only [Instr.row]; decide)
theorem ldaAbs (addr : Word) : Statement (.ldaAbs addr) := of_row rfl rfl (fun _ => by simp only [Instr.row]; decide)
theorem ldaIzy (zp : Byte) : Statement (.ldaIzy zp) := of_row rfl rfl (fun _ => by simp only [Instr.row]; decide)
theorem ldaZpx (zp : Byte) : Statement (.ldaZpx zp) := of_row rfl rfl (fun _ => by simp only [Instr.row]; decide)
theorem ldaAby (addr : Word) : Statement (.ldaAby addr) := of_row rfl rfl (fun _ => by simp only [Instr.row]; decide)
theorem ldaAbx (addr : Word) : Statement (.ldaAbx addr) := of_row rfl rfl (fun _ => by simp only [Instr.row]; decide)
theorem ldxImm (imm : Byte) : Statement (.ldxImm imm) := of_row rfl rfl (fun _ => by simp only [Instr.row]; decide)
theorem ldxZp (zp : Byte) : Statement (.ldxZp zp) := of_row rfl rfl (fun _ => by simp only [Instr.row]; decide)
theorem ldxAbs (addr : Word) : Statement (.ldxAbs addr) := of_row rfl rfl (fun _ => by simp only [Instr.row]; decide)
theorem ldxZpy (zp : Byte) : Statement (.ldxZpy zp) := of_row rfl rfl (fun _ => by simp only [Instr.row]; decide)
theorem ldxAby (addr : Word) : Statement (.ldxAby addr) := of_row rfl rfl (fun _ => by simp only [Instr.row]; decide)
theorem ldyImm (imm : Byte) : Statement (.ldyImm imm) := of_row rfl rfl (fun _ => by simp only [Instr.row]; decide)
theorem ldyZp (zp : Byte) : Statement (.ldyZp zp) := of_row rfl rfl (fun _ => by simp only [Instr.row]; decide)
theorem ldyAbs (addr : Word) : Statement (.ldyAbs addr) := of_row rfl rfl (fun _ => by simp only [Instr.row]; decide)
theorem ldyZpx (zp : Byte) : Statement (.ldyZpx zp) := of_row rfl rfl (fun _ => by simp only [Instr.row]; decide)
theorem ldyAbx (addr : Word) : Statement (.ldyAbx addr) := of_row rfl rfl (fun _ => by simp only [Instr.row]; decide)
theorem staIzx (zp : Byte) : Statement (.staIzx zp) := of_row rfl rfl (fun _ => by simp only [Instr.row]; decide)
theorem staZp (zp : Byte) : Statement (.staZp zp) := of_row rfl rfl (fun _ => by simp only [Instr.row]; decide)
theorem staAbs (addr : Word) : Statement (.staAbs addr) := of_row rfl rfl (fun _ => by simp only [Instr.row]; decide)
theorem staIzy (zp : Byte) : Statement (.staIzy zp) := of_row rfl rfl (fun _ => by simp only [Instr.row]; decide)
theorem staZpx (zp : Byte) : Statement (.staZpx zp) := of_row rfl rfl (fun _ => by simp only [Instr.row]; decide)
theorem staAby (addr : Word) : Statement (.staAby addr) := of_row rfl rfl (fun _ => by simp only [Instr.row]; decide)
theorem staAbx (addr : Word) : Statement (.staAbx addr) := of_row rfl rfl (fun _ => by simp only [Instr.row]; decide)
theorem stxZp (zp : Byte) : Statement (.stxZp zp) := of_row rfl rfl (fun _ => by simp only [Instr.row]; decide)
theorem stxAbs (addr : Word) : Statement (.stxAbs addr) := of_row rfl rfl (fun _ => by simp only [Instr.row]; decide)
theorem stxZpy (zp : Byte) : Statement (.stxZpy zp) := of_row rfl rfl (fun _ => by simp only [Instr.row]; decide)
theorem styZp (zp : Byte) : Statement (.styZp zp) := of_row rfl rfl (fun _ => by simp only [Instr.row]; decide)
theorem styAbs (addr : Word) : Statement (.styAbs addr) := of_row rfl rfl (fun _ => by simp only [Instr.row]; decide)
theorem styZpx (zp : Byte) : Statement (.styZpx zp) := of_row rfl rfl (fun _ => by simp only [Instr.row]; decide)
theorem tax : Statement (.tax) := of_row rfl rfl (fun _ => by simp only [Instr.row]; decide)
theorem tay : Statement (.tay) := of_row rfl rfl (fun _ => by simp only [Instr.row]; decide)
theorem tsx : Statement (.tsx) := of_row rfl rfl (fun _ => by simp only [Instr.row]; decide)
theorem txa : Statement (.txa) := of_row rfl rfl (fun _ => by simp only [Instr.row]; decide)
theorem txs : Statement (.txs) := of_row rfl rfl (fun _ => by simp only [Instr.row]; decide)
theorem tya : Statement (.tya) := of_row rfl rfl (fun _ => by simp only [Instr.row]; decide)
theorem adcIzx (zp : Byte) : Statement (.adcIzx zp) := of_row rfl rfl (fun _ => by simp only [Instr.row]; decide)
theorem adcZp (zp : Byte) : Statement (.adcZp zp) := of_row rfl rfl (fun _ => by simp only [Instr.row]; decide)
theorem adcImm (imm : Byte) : Statement (.adcImm imm) := of_row rfl rfl (fun _ => by simp only [Instr.row]; decide)
theorem adcAbs (addr : Word) : Statement (.adcAbs addr) := of_row rfl rfl (fun _ => by simp only [Instr.row]; decide)
theorem adcIzy (zp : Byte) : Statement (.adcIzy zp) := of_row rfl rfl (fun _ => by simp only [Instr.row]; decide)
theorem adcZpx (zp : Byte) : Statement (.adcZpx zp) := of_row rfl rfl (fun _ => by simp only [Instr.row]; decide)
theorem adcAby (addr : Word) : Statement (.adcAby addr) := of_row rfl rfl (fun _ => by simp only [Instr.row]; decide)
theorem adcAbx (addr : Word) : Statement (.adcAbx addr) := of_row rfl rfl (fun _ => by simp only [Instr.row]; decide)
theorem sbcImm (imm : Byte) : Statement (.sbcImm imm) := of_row rfl rfl (fun _ => by simp only [Instr.row]; decide)
theorem sbcIzx (zp : Byte) : Statement (.sbcIzx zp) := of_row rfl rfl (fun _ => by simp only [Instr.row]; decide)
theorem sbcZp (zp : Byte) : Statement (.sbcZp zp) := of_row rfl rfl (fun _ => by simp only [Instr.row]; decide)
theorem sbcImmEB (imm : Byte) : Statement (.sbcImmEB imm) := of_row rfl rfl (fun _ => by simp only [Instr.row]; decide)
theorem sbcAbs (addr : Word) : Statement (.sbcAbs addr) := of_row rfl rfl (fun _ => by simp only [Instr.row]; decide)
theorem sbcIzy (zp : Byte) : Statement (.sbcIzy zp) := of_row rfl rfl (fun _ => by simp only [Instr.row]; decide)
theorem sbcZpx (zp : Byte) : Statement (.sbcZpx zp) := of_row rfl rfl (fun _ => by simp only [Instr.row]; decide)
theorem sbcAby (addr : Word) : Statement (.sbcAby addr) := of_row rfl rfl (fun _ => by simp only [Instr.row]; decide)
theorem sbcAbx (addr : Word) : Statement (.sbcAbx addr) := of_row rfl rfl (fun _ => by simp only [Instr.row]; decide)
theorem andIzx (zp : Byte) : Statement (.andIzx zp) := of_row rfl rfl (fun _ => by simp only [Instr.row]; decide)
theorem andZp (zp : Byte) : Statement (.andZp zp) := of_row rfl rfl (fun _ => by simp only [Instr.row]; decide)
theorem andImm (imm : Byte) : Statement (.andImm imm) := of_row rfl rfl (fun _ => by simp only [Instr.row]; decide)
theorem andAbs (addr : Word) : Statement (.andAbs addr) := of_row rfl rfl (fun _ => by simp only [Instr.row]; decide)
theorem andIzy (zp : Byte) : Statement (.andIzy zp) := of_row rfl rfl (fun _ => by simp only [Instr.row]; decide)
theorem andZpx (zp : Byte) : Statement (.andZpx zp) := of_row rfl rfl (fun _ => by simp only [Instr.row]; decide)
theorem andAby (addr : Word) : Statement (.andAby addr) := of_row rfl rfl (fun _ => by simp only [Instr.row]; decide)
theorem andAbx (addr : Word) : Statement (.andAbx addr) := of_row rfl rfl (fun _ => by simp only [Instr.row]; decide)
theorem oraIzx (zp : Byte) : Statement (.oraIzx zp) := of_row rfl rfl (fun _ => by simp only [Instr.row]; decide)
theorem oraZp (zp : Byte) : Statement (.oraZp zp) := of_row rfl rfl (fun _ => by simp only [Instr.row]; decide)
theorem oraImm (imm : Byte) : Statement (.oraImm imm) := of_row rfl rfl (fun _ => by simp only [Instr.row]; decide)
theorem oraAbs (addr : Word) : Statement (.oraAbs addr) := of_row rfl rfl (fun _ => by simp only [Instr.row]; decide)
theorem oraIzy (zp : Byte) : Statement (.oraIzy zp) := of_row rfl rfl (fun _ => by simp only [Instr.row]; decide)
theorem oraZpx (zp : Byte) : Statement (.oraZpx zp) := of_row rfl rfl (fun _ => by simp only [Instr.row]; decide)
theorem oraAby (addr : Word) : Statement (.oraAby addr) := of_row rfl rfl (fun _ => by simp only [Instr.row]; decide)
theorem oraAbx (addr : Word) : Statement (.oraAbx addr) := of_row rfl rfl (fun _ => by simp only [Instr.row]; decide)
theorem eorIzx (zp : Byte) : Statement (.eorIzx zp) := of_row rfl rfl (fun _ => by simp only [Instr.row]; decide)
theorem eorZp (zp : Byte) : Statement (.eorZp zp) := of_row rfl rfl (fun _ => by simp only [Instr.row]; decide)
theorem eorImm (imm : Byte) : Statement (.eorImm imm) := of_row rfl rfl (fun _ => by simp only [Instr.row]; decide)
theorem eorAbs (addr : Word) : Statement (.eorAbs addr) := of_row rfl rfl (fun _ => by simp only [Instr.row]; decide)
theorem eorIzy (zp : Byte) : Statement (.eorIzy zp) := of_row rfl rfl (fun _ => by simp only [Instr.row]; decide)
theorem eorZpx (zp : Byte) : Statement (.eorZpx zp) := of_row rfl rfl (fun _ => by simp only [Instr.row]; decide)
theorem eorAby (addr : Word) : Statement (.eorAby addr) := of_row rfl rfl (fun _ => by simp only [Instr.row]; decide)
theorem eorAbx (addr : Word) : Statement (.eorAbx addr) := of_row rfl rfl (fun _ => by simp only [Instr.row]; decide)
theorem cmpIzx (zp : Byte) : Statement (.cmpIzx zp) := of_row rfl rfl (fun _ => by simp only [Instr.row]; decide)
theorem cmpZp (zp : Byte) : Statement (.cmpZp zp) := of_row rfl rfl (fun _ => by simp only [Instr.row]; decide)
theorem cmpImm (imm : Byte) : Statement (.cmpImm imm) := of_row rfl rfl (fun _ => by simp only [Instr.row]; decide)
theorem cmpAbs (addr : Word) : Statement (.cmpAbs addr) := of_row rfl rfl (fun _ => by simp only [Instr.row]; decide)
theorem cmpIzy (zp : Byte) : Statement (.cmpIzy zp) := of_row rfl rfl (fun _ => by simp only [Instr.row]; decide)
theorem cmpZpx (zp : Byte) : Statement (.cmpZpx zp) := of_row rfl rfl (fun _ => by simp only [Instr.row]; decide)
theorem cmpAby (addr : Word) : Statement (.cmpAby addr) := of_row rfl rfl (fun _ => by simp only [Instr.row]; decide)
theorem cmpAbx (addr : Word) : Statement (.cmpAbx addr) := of_row rfl rfl (fun _ => by simp only [Instr.row]; decide)
theorem cpxImm (imm : Byte) : Statement (.cpxImm imm) := of_row rfl rfl (fun _ => by simp only [Instr.row]; decide)
theorem cpxZp (zp : Byte) : Statement (.cpxZp zp) := of_row rfl rfl (fun _ => by simp only [Instr.row]; decide)
theorem cpxAbs (addr : Word) : Statement (.cpxAbs addr) := of_row rfl rfl (fun _ => by simp only [Instr.row]; decide)
theorem cpyImm (imm : Byte) : Statement (.cpyImm imm) := of_row rfl rfl (fun _ => by simp only [Instr.row]; decide)
theorem cpyZp (zp : Byte) : Statement (.cpyZp zp) := of_row rfl rfl (fun _ => by simp only [Instr.row]; decide)
theorem cpyAbs (addr : Word) : Statement (.cpyAbs addr) := of_row rfl rfl (fun _ => by simp only [Instr.row]; decide)
theorem bitZp (zp : Byte) : Statement (.bitZp zp) := of_row rfl rfl (fun _ => by simp only [Instr.row]; decide)
theorem bitAbs (addr : Word) : Statement (.bitAbs addr) := of_row rfl rfl (fun _ => by simp only [Instr.row]; decide)
theorem incZp (zp : Byte) : Statement (.incZp zp) := of_row rfl rfl (fun _ => by simp only [Instr.row]; decide)
theorem incAbs (addr : Word) : Statement (.incAbs addr) := of_row rfl rfl (fun _ => by simp only [Instr.row]; decide)
theorem incZpx (zp : Byte) : Statement (.incZpx zp) := of_row rfl rfl (fun _ => by simp only [Instr.row]; decide)
theorem incAbx (addr : Word) : Statement (.incAbx addr) := of_row rfl rfl (fun _ => by simp only [Instr.row]; decide)
theorem decZp (zp : Byte) : Statement (.decZp zp) := of_row rfl rfl (fun _ => by simp only [Instr.row]; decide)
theorem decAbs (addr : Word) : Statement (.decAbs addr) := of_row rfl rfl (fun _ => by simp only [Instr.row]; decide)
theorem decZpx (zp : Byte) : Statement (.decZpx zp) := of_row rfl rfl (fun _ => by simp only [Instr.row]; decide)
theorem decAbx (addr : Word) : Statement (.decAbx addr) := of_row rfl rfl (fun _ => by simp only [Instr.row]; decide)
theorem inx : Statement (.inx) := of_row rfl rfl (fun _ => by simp only [Instr.row]; decide)
theorem iny : Statement (.iny) := of_row rfl rfl (fun _ => by simp only [Instr.row]; decide)
theorem dex : Statement (.dex) := of_row rfl rfl (fun _ => by simp only [Instr.row]; decide)
theorem dey : Statement (.dey) := of_row rfl rfl (fun _ => by simp only [Instr.row]; decide)
theorem aslZp (zp : Byte) : Statement (.aslZp zp) := of_row rfl rfl (fun _ => by simp only [Instr.row]; decide)
theorem aslAcc : Statement (.aslAcc) := of_row rfl rfl (fun _ => by simp only [Instr.row]; decide)
theorem aslAbs (addr : Word) : Statement (.aslAbs addr) := of_row rfl rfl (fun _ => by simp only [Instr.row]; decide)
theorem aslZpx (zp : Byte) : Statement (.aslZpx zp) := of_row rfl rfl (fun _ => by simp only [Instr.row]; decide)
theorem aslAbx (addr : Word) : Statement (.aslAbx addr) := of_row rfl rfl (fun _ => by simp only [Instr.row]; decide)
theorem lsrZp (zp : Byte) : Statement (.lsrZp zp) := of_row rfl rfl (fun _ => by simp only [Instr.row]; decide)
theorem lsrAcc : Statement (.lsrAcc) := of_row rfl rfl (fun _ => by simp only [Instr.row]; decide)
theorem lsrAbs (addr : Word) : Statement (.lsrAbs addr) := of_row rfl rfl (fun _ => by simp only [Instr.row]; decide)
theorem lsrZpx (zp : Byte) : Statement (.lsrZpx zp) := of_row rfl rfl (fun _ => by simp only [Instr.row]; decide)
theorem lsrAbx (addr : Word) : Statement (.lsrAbx addr) := of_row rfl rfl (fun _ => by simp only [Instr.row]; decide)
theorem rolZp (zp : Byte) : Statement (.rolZp zp) := of_row rfl rfl (fun _ => by simp only [Instr.row]; decide)
theorem rolAcc : Statement (.rolAcc) := of_row rfl rfl (fun _ => by simp only [Instr.row]; decide)
theorem rolAbs (addr : Word) : Statement (.rolAbs addr) := of_row rfl rfl (fun _ => by simp only [Instr.row]; decide)
theorem rolZpx (zp : Byte) : Statement (.rolZpx zp) := of_row rfl rfl (fun _ => by simp only [Instr.row]; decide)
theorem rolAbx (addr : Word) : Statement (.rolAbx addr) := of_row rfl rfl (fun _ => by simp only [Instr.row]; decide)
theorem rorZp (zp : Byte) : Statement (.rorZp zp) := of_row rfl rfl (fun _ => by simp only [Instr.row]; decide)
theorem rorAcc : Statement (.rorAcc) := of_row rfl rfl (fun _ => by simp only [Instr.row]; decide)
theorem rorAbs (addr : Word) : Statement (.rorAbs addr) := of_row rfl rfl (fun _ => by simp only [Instr.row]; decide)
theorem rorZpx (zp : Byte) : Statement (.rorZpx zp) := of_row rfl rfl (fun _ => by simp only [Instr.row]; decide)
theorem rorAbx (addr : Word) : Statement (.rorAbx addr) := of_row rfl rfl (fun _ => by simp only [Instr.row]; decide)
theorem jmpAbs (addr : Word) : Statement (.jmpAbs addr) := of_row rfl rfl (fun _ => by simp only [Instr.row]; decide)
theorem jmpInd (ptr : Word) : Statement (.jmpInd ptr) := of_row rfl rfl (fun _ => by simp only [Instr.row]; decide)
theorem jsrAbs (addr : Word) : Statement (.jsrAbs addr) := of_row rfl rfl (fun _ => by simp only [Instr.row]; decide)
theorem rts : Statement (.rts) := of_row rfl rfl (fun _ => by simp only [Instr.row]; decide)
theorem rti : Statement (.rti) := of_row rfl rfl (fun _ => by simp only [Instr.row]; decide)
theorem brk : Statement (.brk) := of_row rfl rfl (fun _ => by simp only [Instr.row]; decide)
theorem bcc (off : Byte) : Statement (.bcc off) := of_row rfl rfl (fun _ => by simp only [Instr.row]; decide)
theorem bcs (off : Byte) : Statement (.bcs off) := of_row rfl rfl (fun _ => by simp only [Instr.row]; decide)
theorem beq (off : Byte) : Statement (.beq off) := of_row rfl rfl (fun _ => by simp only [Instr.row]; decide)
theorem bmi (off : Byte) : Statement (.bmi off) := of_row rfl rfl (fun _ => by simp only [Instr.row]; decide)
theorem bne (off : Byte) : Statement (.bne off) := of_row rfl rfl (fun _ => by simp only [Instr.row]; decide)
theorem bpl (off : Byte) : Statement (.bpl off) := of_row rfl rfl (fun _ => by simp only [Instr.row]; decide)
theorem bvc (off : Byte) : Statement (.bvc off) := of_row rfl rfl (fun _ => by simp only [Instr.row]; decide)
theorem bvs (off : Byte) : Statement (.bvs off) := of_row rfl rfl (fun _ => by simp only [Instr.row]; decide)
theorem pha : Statement (.pha) := of_row rfl rfl (fun _ => by simp only [Instr.row]; decide)
theorem php : Statement (.php) := of_row rfl rfl (fun _ => by simp only [Instr.row]; decide)
theorem pla : Statement (.pla) := of_row rfl rfl (fun _ => by simp only [Instr.row]; decide)
theorem plp : Statement (.plp) := of_row rfl rfl (fun _ => by simp only [Instr.row]; decide)
theorem clc : Statement (.clc) := of_row rfl rfl (fun _ => by simp only [Instr.row]; decide)
theorem cld : Statement (.cld) := of_row rfl rfl (fun _ => by simp only [Instr.row]; decide)
theorem cli : Statement (.cli) := of_row rfl rfl (fun _ => by simp only [Instr.row]; decide)
theorem clv : Statement (.clv) := of_row rfl rfl (fun _ => by simp only [Instr.row]; decide)
theorem sec : Statement (.sec) := of_row rfl rfl (fun _ => by simp only [Instr.row]; decide)
theorem sed : Statement (.sed) := of_row rfl rfl (fun _ => by simp only [Instr.row]; decide)
theorem sei : Statement (.sei) := of_row rfl rfl (fun _ => by simp only [Instr.row]; decide)
theorem nop : Statement (.nop) := of_row rfl rfl (fun _ => by simp only [Instr.row]; decide)
theorem nopZp04 (zp : Byte) : Statement (.nopZp04 zp) := of_row rfl rfl (fun _ => by simp only [Instr.row]; decide)
theorem nopAbs (addr : Word) : Statement (.nopAbs addr) := of_row rfl rfl (fun _ => by simp only [Instr.row]; decide)
theorem nopZpx14 (zp : Byte) : Statement (.nopZpx14 zp) := of_row rfl rfl (fun _ => by simp only [Instr.row]; decide)
theorem nop1A : Statement (.nop1A) := of_row rfl rfl (fun _ => by simp only [Instr.row]; decide)
theorem nopAbx1C (addr : Word) : Statement (.nopAbx1C addr) := of_row rfl rfl (fun _ => by simp only [Instr.row]; decide)
theorem nopZpx34 (zp : Byte) : Statement (.nopZpx34 zp) := of_row rfl rfl (fun _ => by simp only [Instr.row]; decide)
theorem nop3A : Statement (.nop3A) := of_row rfl rfl (fun _ => by simp only [Instr.row]; decide)
theorem nopAbx3C (addr : Word) : Statement (.nopAbx3C addr) := of_row rfl rfl (fun _ => by simp only [Instr.row]; decide)
theorem nopZp44 (zp : Byte) : Statement (.nopZp44 zp) := of_row rfl rfl (fun _ => by simp only [Instr.row]; decide)
theorem nopZpx54 (zp : Byte) : Statement (.nopZpx54 zp) := of_row rfl rfl (fun _ => by simp only [Instr.row]; decide)
theorem nop5A : Statement (.nop5A) := of_row rfl rfl (fun _ => by simp only [Instr.row]; decide)
theorem nopAbx5C (addr : Word) : Statement (.nopAbx5C addr) := of_row rfl rfl (fun _ => by simp only [Instr.row]; decide)
theorem nopZp64 (zp : Byte) : Statement (.nopZp64 zp) := of_row rfl rfl (fun _ => by simp only [Instr.row]; decide)
theorem nopZpx74 (zp : Byte) : Statement (.nopZpx74 zp) := of_row rfl rfl (fun _ => by simp only [Instr.row]; decide)
theorem nop7A : Statement (.nop7A) := of_row rfl rfl (fun _ => by simp only [Instr.row]; decide)
theorem nopAbx7C (addr : Word) : Statement (.nopAbx7C addr) := of_row rfl rfl (fun _ => by simp only [Instr.row]; decide)
theorem nopImm80 (imm : Byte) : Statement (.nopImm80 imm) := of_row rfl rfl (fun _ => by simp only [Instr.row]; decide)
theorem nopImm82 (imm : Byte) : Statement (.nopImm82 imm) := of_row rfl rfl (fun _ => by simp only [Instr.row]; decide)
theorem nopImm89 (imm : Byte) : Statement (.nopImm89 imm) := of_row rfl rfl (fun _ => by simp only [Instr.row]; decide)
theorem nopImmC2 (imm : Byte) : Statement (.nopImmC2 imm) := of_row rfl rfl (fun _ => by simp only [Instr.row]; decide)
theorem nopZpxD4 (zp : Byte) : Statement (.nopZpxD4 zp) := of_row rfl rfl (fun _ => by simp only [Instr.row]; decide)
theorem nopDA : Statement (.nopDA) := of_row rfl rfl (fun _ => by simp only [Instr.row]; decide)
theorem nopAbxDC (addr : Word) : Statement (.nopAbxDC addr) := of_row rfl rfl (fun _ => by simp only [Instr.row]; decide)
theorem nopImmE2 (imm : Byte) : Statement (.nopImmE2 imm) := of_row rfl rfl (fun _ => by simp only [Instr.row]; decide)
theorem nopZpxF4 (zp : Byte) : Statement (.nopZpxF4 zp) := of_row rfl rfl (fun _ => by simp only [Instr.row]; decide)
theorem nopFA : Statement (.nopFA) := of_row rfl rfl (fun _ => by simp only [Instr.row]; decide)
theorem nopAbxFC (addr : Word) : Statement (.nopAbxFC addr) := of_row rfl rfl (fun _ => by simp only [Instr.row]; decide)
theorem laxIzx (zp : Byte) : Statement (.laxIzx zp) := of_row rfl rfl (fun _ => by simp only [Instr.row]; decide)
theorem laxZp (zp : Byte) : Statement (.laxZp zp) := of_row rfl rfl (fun _ => by simp only [Instr.row]; decide)
theorem laxAbs (addr : Word) : Statement (.laxAbs addr) := of_row rfl rfl (fun _ => by simp only [Instr.row]; decide)
theorem laxIzy (zp : Byte) : Statement (.laxIzy zp) := of_row rfl rfl (fun _ => by simp only [Instr.row]; decide)
theorem laxZpy (zp : Byte) : Statement (.laxZpy zp) := of_row rfl rfl (fun _ => by simp only [Instr.row]; decide)
theorem laxAby (addr : Word) : Statement (.laxAby addr) := of_row rfl rfl (fun _ => by simp only [Instr.row]; decide)
theorem saxIzx (zp : Byte) : Statement (.saxIzx zp) := of_row rfl rfl (fun _ => by simp only [Instr.row]; decide)
theorem saxZp (zp : Byte) : Statement (.saxZp zp) := of_row rfl rfl (fun _ => by simp only [Instr.row]; decide)
theorem saxAbs (addr : Word) : Statement (.saxAbs addr) := of_row rfl rfl (fun _ => by simp only [Instr.row]; decide)
theorem saxZpy (zp : Byte) : Statement (.saxZpy zp) := of_row rfl rfl (fun _ => by simp only [Instr.row]; decide)
theorem dcpIzx (zp : Byte) : Statement (.dcpIzx zp) := of_row rfl rfl (fun _ => by simp only [Instr.row]; decide)
theorem dcpZp (zp : Byte) : Statement (.dcpZp zp) := of_row rfl rfl (fun _ => by simp only [Instr.row]; decide)
theorem dcpAbs (addr : Word) : Statement (.dcpAbs addr) := of_row rfl rfl (fun _ => by simp only [Instr.row]; decide)
theorem dcpIzy (zp : Byte) : Statement (.dcpIzy zp) := of_row rfl rfl (fun _ => by simp only [Instr.row]; decide)
theorem dcpZpx (zp : Byte) : Statement (.dcpZpx zp) := of_row rfl rfl (fun _ => by simp only [Instr.row]; decide)
theorem dcpAby (addr : Word) : Statement (.dcpAby addr) := of_row rfl rfl (fun _ => by simp only [Instr.row]; decide)
theorem dcpAbx (addr : Word) : Statement (.dcpAbx addr) := of_row rfl rfl (fun _ => by simp only [Instr.row]; decide)
theorem isbIzx (zp : Byte) : Statement (.isbIzx zp) := of_row rfl rfl (fun _ => by simp only [Instr.row]; decide)
theorem isbZp (zp : Byte) : Statement (.isbZp zp) := of_row rfl rfl (fun _ => by simp only [Instr.row]; decide)
theorem isbAbs (addr : Word) : Statement (.isbAbs addr) := of_row rfl rfl (fun _ => by simp only [Instr.row]; decide)
theorem isbIzy (zp : Byte) : Statement (.isbIzy zp) := of_row rfl rfl (fun _ => by simp only [Instr.row]; decide)
theorem isbZpx (zp : Byte) : Statement (.isbZpx zp) := of_row rfl rfl (fun _ => by simp only [Instr.row]; decide)
theorem isbAby (addr : Word) : Statement (.isbAby addr) := of_row rfl rfl (fun _ => by simp only [Instr.row]; decide)
theorem isbAbx (addr : Word) : Statement (.isbAbx addr) := of_row rfl rfl (fun _ => by simp only [Instr.row]; decide)
theorem sloIzx (zp : Byte) : Statement (.sloIzx zp) := of_row rfl rfl (fun _ => by simp only [Instr.row]; decide)
theorem sloZp (zp : Byte) : Statement (.sloZp zp) := of_row rfl rfl (fun _ => by simp only [Instr.row]; decide)
theorem sloAbs (addr : Word) : Statement (.sloAbs addr) := of_row rfl rfl (fun _ => by simp only [Instr.row]; decide)
theorem sloIzy (zp : Byte) : Statement (.sloIzy zp) := of_row rfl rfl (fun _ => by simp only [Instr.row]; decide)
theorem sloZpx (zp : Byte) : Statement (.sloZpx zp) := of_row rfl rfl (fun _ => by simp only [Instr.row]; decide)
theorem sloAby (addr : Word) : Statement (.sloAby addr) := of_row rfl rfl (fun _ => by simp only [Instr.row]; decide)
theorem sloAbx (addr : Word) : Statement (.sloAbx addr) := of_row rfl rfl (fun _ => by simp only [Instr.row]; decide)
theorem rlaIzx (zp : Byte) : Statement (.rlaIzx zp) := of_row rfl rfl (fun _ => by simp only [Instr.row]; decide)
theorem rlaZp (zp : Byte) : Statement (.rlaZp zp) := of_row rfl rfl (fun _ => by simp only [Instr.row]; decide)
theorem rlaAbs (addr : Word) : Statement (.rlaAbs addr) := of_row rfl rfl (fun _ => by simp only [Instr.row]; decide)
theorem rlaIzy (zp : Byte) : Statement (.rlaIzy zp) := of_row rfl rfl (fun _ => by simp only [Instr.row]; decide)
theorem rlaZpx (zp : Byte) : Statement (.rlaZpx zp) := of_row rfl rfl (fun _ => by simp only [Instr.row]; decide)
theorem rlaAby (addr : Word) : Statement (.rlaAby addr) := of_row rfl rfl (fun _ => by simp only [Instr.row]; decide)
theorem rlaAbx (addr : Word) : Statement (.rlaAbx addr) := of_row rfl rfl (fun _ => by simp only [Instr.row]; decide)
theorem sreIzx (zp : Byte) : Statement (.sreIzx zp) := of_row rfl rfl (fun _ => by simp only [Instr.row]; decide)
theorem sreZp (zp : Byte) : Statement (.sreZp zp) := of_row rfl rfl (fun _ => by simp only [Instr.row]; decide)
theorem sreAbs (addr : Word) : Statement (.sreAbs addr) := of_row rfl rfl (fun _ => by simp only [Instr.row]; decide)
theorem sreIzy (zp : Byte) : Statement (.sreIzy zp) := of_row rfl rfl (fun _ => by simp only [Instr.row]; decide)
theorem sreZpx (zp : Byte) : Statement (.sreZpx zp) := of_row rfl rfl (fun _ => by simp only [Instr.row]; decide)
theorem sreAby (addr : Word) : Statement (.sreAby addr) := of_row rfl rfl (fun _ => by simp only [Instr.row]; decide)
theorem sreAbx (addr : Word) : Statement (.sreAbx addr) := of_row rfl rfl (fun _ => by simp only [Instr.row]; decide)
theorem rraIzx (zp : Byte) : Statement (.rraIzx zp) := of_row rfl rfl (fun _ => by simp only [Instr.row]; decide)
theorem rraZp (zp : Byte) : Statement (.rraZp zp) := of_row rfl rfl (fun _ => by simp only [Instr.row]; decide)
theorem rraAbs (addr : Word) : Statement (.rraAbs addr) := of_row rfl rfl (fun _ => by simp only [Instr.row]; decide)
theorem rraIzy (zp : Byte) : Statement (.rraIzy zp) := of_row rfl rfl (fun _ => by simp only [Instr.row]; decide)
theorem rraZpx (zp : Byte) : Statement (.rraZpx zp) := of_row rfl rfl (fun _ => by simp only [Instr.row]; decide)
theorem rraAby (addr : Word) : Statement (.rraAby addr) := of_row rfl rfl (fun _ => by simp only [Instr.row]; decide)
theorem rraAbx (addr : Word) : Statement (.rraAbx addr) := of_row rfl rfl (fun _ => by simp only [Instr.row]; decide)
theorem ancImm0B (imm : Byte) : Statement (.ancImm0B imm) := of_row rfl rfl (fun _ => by simp only [Instr.row]; decide)
theorem ancImm2B (imm : Byte) : Statement (.ancImm2B imm) := of_row rfl rfl (fun _ => by simp only [Instr.row]; decide)
theorem alrImm (imm : Byte) : Statement (.alrImm imm) := of_row rfl rfl (fun _ => by simp only [Instr.row]; decide)
theorem arrImm (imm : Byte) : Statement (.arrImm imm) := of_row rfl rfl (fun _ => by simp only [Instr.row]; decide)
theorem axsImm (imm : Byte) : Statement (.axsImm imm) := of_row rfl rfl (fun _ => by simp only [Instr.row]; decide)
theorem lasAby (addr : Word) : Statement (.lasAby addr) := of_row rfl rfl (fun _ => by simp only [Instr.row]; decide)
theorem xaaImm (imm : Byte) : Statement (.xaaImm imm) := of_row rfl rfl (fun _ => by simp only [Instr.row]; decide)
theorem lxaImm (imm : Byte) : Statement (.lxaImm imm) := of_row rfl rfl (fun _ => by simp only [Instr.row]; decide)
theorem ahxIzy (zp : Byte) : Statement (.ahxIzy zp) := of_row rfl rfl (fun _ => by simp only [Instr.row]; decide)
theorem ahxAby (addr : Word) : Statement (.ahxAby addr) := of_row rfl rfl (fun _ => by simp only [Instr.row]; decide)
theorem shyAbx (addr : Word) : Statement (.shyAbx addr) := of_row rfl rfl (fun _ => by simp only [Instr.row]; decide)
theorem shxAby (addr : Word) : Statement (.shxAby addr) := of_row rfl rfl (fun _ => by simp only [Instr.row]; decide)
theorem tasAby (addr : Word) : Statement (.tasAby addr) := of_row rfl rfl (fun _ => by simp only [Instr.row]; decide)
theorem kil02 : Statement (.kil02) := of_row rfl rfl (fun h => absurd rfl h)
theorem kil12 : Statement (.kil12) := of_row rfl rfl (fun h => absurd rfl h)
theorem kil22 : Statement (.kil22) := of_row rfl rfl (fun h => absurd rfl h)
theorem kil32 : Statement (.kil32) := of_row rfl rfl (fun h => absurd rfl h)
theorem kil42 : Statement (.kil42) := of_row rfl rfl (fun h => absurd rfl h)
theorem kil52 : Statement (.kil52) := of_row rfl rfl (fun h => absurd rfl h)
theorem kil62 : Statement (.kil62) := of_row rfl rfl (fun h => absurd rfl h)
theorem kil72 : Statement (.kil72) := of_row rfl rfl (fun h => absurd rfl h)
theorem kil92 : Statement (.kil92) := of_row rfl rfl (fun h => absurd rfl h)
theorem kilB2 : Statement (.kilB2) := of_row rfl rfl (fun h => absurd rfl h)
theorem kilD2 : Statement (.kilD2) := of_row rfl rfl (fun h => absurd rfl h)
theorem kilF2 : Statement (.kilF2) := of_row rfl rfl (fun h => absurd rfl h)

end Sys2Proof.Laws.EncodingForm
end

