-- ==== Sys2Proof/Laws/Ppu.lean ====
section
/-! SUPPORT. Laws of a PPU dot: what each of its parts can change, and the invariant that the whole dot keeps. -/

namespace Sys2Proof.Machine

/-- What the background pipeline and the scroll updates leave alone: they change the tile latches, the shift registers and `v`. -/
abbrev BackgroundFrame (s t : State) : Prop :=
  t = s.setPpu { s.ppu with
    ntByte := t.ppu.ntByte, atBits := t.ppu.atBits, patLo := t.ppu.patLo, patHi := t.ppu.patHi
    bgPatLo := t.ppu.bgPatLo, bgPatHi := t.ppu.bgPatHi, bgAtLo := t.ppu.bgAtLo, bgAtHi := t.ppu.bgAtHi, v := t.ppu.v }

theorem BackgroundFrame.refl (s : State) : BackgroundFrame s s := rfl

theorem BackgroundFrame.trans {s t u : State} (h : BackgroundFrame s t) (k : BackgroundFrame t u) : BackgroundFrame s u := by
  unfold BackgroundFrame at *
  rw [k, h]
  rfl

theorem windowFetch_frame (phase : Nat) (s : State) : BackgroundFrame s (windowFetch phase s) := by
  unfold windowFetch
  split <;> rfl

theorem windowStep_frame (d : Nat) (s : State) : BackgroundFrame s (windowStep d s) := by
  unfold windowStep
  refine BackgroundFrame.trans ?_ (windowFetch_frame _ _)
  split <;> rfl

theorem scrollStep_frame (line d : Nat) (s : State) : BackgroundFrame s (scrollStep line d s) := by
  unfold scrollStep
  dsimp only
  split <;> split <;> split <;> rfl

theorem backgroundStep_frame (line d : Nat) (s : State) : BackgroundFrame s (backgroundStep line d s) := by
  unfold backgroundStep
  refine BackgroundFrame.trans ?_ (scrollStep_frame _ _ _)
  split
  · exact windowStep_frame d s
  · exact BackgroundFrame.refl s

theorem BackgroundFrame.inv {s t : State} (h : BackgroundFrame s t) (hs : s.Inv) : t.Inv := by
  rw [h]
  exact hs

/-- What the sprite pipeline leaves alone: it changes secondary OAM, the evaluator and the line buffer. -/
abbrev SpriteFrame (s t : State) : Prop :=
  t = s.setPpu { s.ppu with
    secOam := t.ppu.secOam, evalState := t.ppu.evalState, evalN := t.ppu.evalN, secSlot := t.ppu.secSlot
    spriteCount := t.ppu.spriteCount, spriteLine := t.ppu.spriteLine }

theorem SpriteFrame.refl (s : State) : SpriteFrame s s := rfl

theorem SpriteFrame.trans {s t u : State} (h : SpriteFrame s t) (k : SpriteFrame t u) : SpriteFrame s u := by
  unfold SpriteFrame at *
  rw [k, h]
  rfl

theorem evalStep_frame (line : Nat) (s : State) : SpriteFrame s (s.setPpu (evalStep line s.ppu)) := by
  unfold evalStep Ppu.setSecOam
  split
  · rfl
  · split
    · rfl
    · dsimp only
      split <;> rfl
  · rfl
  · rfl
  · dsimp only
    split <;> rfl

theorem spriteFetch_frame (k line : Nat) (s : State) : SpriteFrame s (spriteFetch k line s) := by
  unfold spriteFetch
  split <;> rfl

theorem SpriteFrame.ite (c : Prop) [Decidable c] {s t : State} (h : SpriteFrame s t) : SpriteFrame s (if c then t else s) := by
  split
  · exact h
  · exact SpriteFrame.refl s

theorem visibleSpriteStep_frame (line d : Nat) (s : State) : SpriteFrame s (visibleSpriteStep line d s) := by
  have h2 := fun u : State => SpriteFrame.ite (1 ≤ d ∧ d ≤ 64) (s := u) (t := u.setPpu (clearSecOam d u.ppu)) rfl
  have h3 := fun u : State => SpriteFrame.ite (d = 65) (s := u) (t := u.setPpu (evalInit u.ppu)) rfl
  have h4 := fun u : State => SpriteFrame.ite (65 ≤ d ∧ d ≤ 256) (evalStep_frame line u)
  have h5 := fun u : State => SpriteFrame.ite (264 ≤ d ∧ d ≤ 320 ∧ d % 8 = 0) (spriteFetch_frame ((d - 264) / 8) line u)
  exact (((h2 s).trans (h3 _)).trans (h4 _)).trans (h5 _)

theorem spriteStep_frame (line d : Nat) (s : State) : SpriteFrame s (spriteStep line d s) := by
  have h1 := SpriteFrame.ite (d = 257 ∧ (line ≤ 239 ∨ line = 261)) (s := s) (t := s.setPpu { s.ppu with spriteLine := [] }) rfl
  have h2 := fun u : State => SpriteFrame.ite (line ≤ 239) (visibleSpriteStep_frame line d u)
  exact h1.trans (h2 _)

/-- What the single-dot events leave alone: they change `status`, the interrupt line and the output. -/
theorem dotEvents_frame (line d : Nat) (s : State) :
    dotEvents line d s = { s.setPpu { s.ppu with status := (dotEvents line d s).ppu.status } with
      nmiLine := (dotEvents line d s).nmiLine, events := (dotEvents line d s).events } := by
  unfold dotEvents
  dsimp only
  split <;> split <;> split <;> rfl

/-- Writing a byte of a slot of secondary OAM keeps the PPU's invariant. -/
theorem Ppu.Inv.setSecOam {q : Ppu} (h : q.Inv) {i : Nat} (hi : i < 0x20) (b : Byte) : (q.setSecOam i b).Inv :=
  ⟨h.1, h.2.1, h.2.2.1, h.2.2.2.1, h.2.2.2.2.1, h.2.2.2.2.2.1, h.2.2.2.2.2.2.1, Memory.wf_write b h.secOam hi, h.2.2.2.2.2.2.2.2⟩

/-- Other evaluator counters in range keep the PPU's invariant. -/
theorem Ppu.Inv.withEval {q : Ppu} (h : q.Inv) {e : EvalState} {n slot count : Nat}
    (he : ({ q with evalState := e, evalN := n, secSlot := slot, spriteCount := count } : Ppu).evalFits) :
    ({ q with evalState := e, evalN := n, secSlot := slot, spriteCount := count } : Ppu).Inv :=
  ⟨h.1, h.2.1, he, h.2.2.2.1, h.2.2.2.2⟩

theorem evalStep_inv (line : Nat) {q : Ppu} (h : q.Inv) : (evalStep line q).Inv := by
  obtain ⟨h1, h2, h3, h4, h5⟩ := h.2.2.1
  unfold evalStep
  split
  · exact h
  · rename_i hs
    have h4 := h4 (by rw [hs]; decide)
    split
    · exact Ppu.Inv.withEval (q := q) h ⟨h1, h2, h3, nofun, nofun⟩
    · dsimp only
      split
      · exact Ppu.Inv.withEval (h.setSecOam (by omega) _) ⟨h1, h2, h3, fun _ => h4, fun _ _ => by dsimp only [Ppu.setSecOam]; omega⟩
      · exact Ppu.Inv.withEval h ⟨by dsimp only; omega, h2, h3, fun _ => h4, fun _ hc => absurd hs hc⟩
  · rename_i hs
    have h4 := h4 (by rw [hs]; decide)
    have h5 := h5 (by rw [hs]; decide) (by rw [hs]; decide)
    exact Ppu.Inv.withEval (h.setSecOam (by omega) _) ⟨h1, h2, h3, fun _ => h4, fun _ _ => h5⟩
  · rename_i hs
    have h4 := h4 (by rw [hs]; decide)
    have h5 := h5 (by rw [hs]; decide) (by rw [hs]; decide)
    exact Ppu.Inv.withEval (h.setSecOam (by omega) _) ⟨h1, h2, h3, fun _ => h4, fun _ _ => h5⟩
  · rename_i hs
    have h4 := h4 (by rw [hs]; decide)
    have h5 := h5 (by rw [hs]; decide) (by rw [hs]; decide)
    have k := h.setSecOam (i := 4 * q.secSlot + 3) (by omega) (q.oamByte (4 * q.evalN + 3))
    dsimp only
    split
    · rename_i hc
      exact Ppu.Inv.withEval k ⟨by dsimp only [Ppu.setSecOam]; omega, by dsimp only; omega, by dsimp only [Ppu.setSecOam] at hc ⊢; omega,
        nofun, nofun⟩
    · rename_i hc
      dsimp only [Ppu.setSecOam] at hc
      exact Ppu.Inv.withEval k ⟨by dsimp only [Ppu.setSecOam]; omega, by dsimp only [Ppu.setSecOam]; omega,
        by dsimp only [Ppu.setSecOam]; omega, fun _ => by dsimp only [Ppu.setSecOam]; omega, fun _ hc => absurd rfl hc⟩

/-- The entry a visible sprite pixel registers is not transparent. -/
theorem spriteEntry_opaque (attr : Byte) {px : BitVec 2} (h : px ≠ 0#2) : opaquePixel (spriteEntry attr px).colour = true := by
  have : (attr.setWidth 2 ++ px : BitVec 4).setWidth 2 = px := by
    generalize attr.setWidth 2 = a
    revert a px
    decide
  simp only [opaquePixel, spriteEntry, this]
  simpa using h

theorem Store.mem_set {α : Type} [DecidableEq α] {d : α} {m : List (Nat × α)} {i : Nat} {x : α} {e : Nat × α}
    (h : e ∈ Store.set d m i x) : e = (i, x) ∨ e ∈ m := by
  unfold Store.set at h
  split at h
  · exact .inr (Store.mem_erase h).1
  · rcases Store.mem_insert h with h | h
    · exact .inl h
    · exact .inr (Store.mem_erase h).1

theorem registerPixel_line (attr lo hi x0 : Byte) (j : Nat) {line : List (Nat × Option SpritePixel)} (h : spriteLineWf line)
    (k : ∀ e ∈ line, e.2.all (fun px => opaquePixel px.colour) = true) :
    spriteLineWf (registerPixel attr lo hi x0 line j) ∧
      ∀ e ∈ registerPixel attr lo hi x0 line j, e.2.all (fun px => opaquePixel px.colour) = true := by
  unfold registerPixel
  dsimp only
  split
  · rename_i hp
    refine ⟨Store.wf_set _ h (by omega), fun e he => ?_⟩
    rcases Store.mem_set he with rfl | he
    · exact spriteEntry_opaque attr hp.1
    · exact k e he
  · exact ⟨h, k⟩

theorem registerPixels_line (attr lo hi x0 : Byte) (l : List Nat) {line : List (Nat × Option SpritePixel)} (h : spriteLineWf line)
    (k : ∀ e ∈ line, e.2.all (fun px => opaquePixel px.colour) = true) :
    spriteLineWf (l.foldl (registerPixel attr lo hi x0) line) ∧
      ∀ e ∈ l.foldl (registerPixel attr lo hi x0) line, e.2.all (fun px => opaquePixel px.colour) = true := by
  induction l generalizing line with
  | nil => exact ⟨h, k⟩
  | cons j l ih =>
    obtain ⟨h, k⟩ := registerPixel_line attr lo hi x0 j h k
    exact ih h k

theorem Ppu.Inv.withLine {q : Ppu} (h : q.Inv) {line : List (Nat × Option SpritePixel)} (hw : spriteLineWf line)
    (ho : ∀ e ∈ line, e.2.all (fun px => opaquePixel px.colour) = true) : ({ q with spriteLine := line } : Ppu).Inv :=
  ⟨h.1, h.2.1, h.2.2.1, ho, h.2.2.2.2.1, h.2.2.2.2.2.1, h.2.2.2.2.2.2.1, h.secOam, hw⟩

theorem spriteFetch_inv (k line : Nat) {s : State} (h : s.Inv) : (spriteFetch k line s).Inv := by
  unfold spriteFetch
  split
  · have key := fun a lo hi x0 =>
      registerPixels_line a lo hi x0 (List.range 8) h.2.1.2.2.2.2.2.2.2.2 h.2.1.2.2.2.1
    exact h.withPpu (h.2.1.withLine (key _ _ _ _).1 (key _ _ _ _).2)
  · exact h

theorem State.Inv.ite (c : Prop) [Decidable c] {s t : State} (h : s.Inv) (k : t.Inv) : (if c then t else s).Inv := by
  split
  · exact k
  · exact h

theorem visibleSpriteStep_inv (line d : Nat) {s : State} (h : s.Inv) : (visibleSpriteStep line d s).Inv := by
  have h2 : (if 1 ≤ d ∧ d ≤ 64 then s.setPpu (clearSecOam d s.ppu) else s).Inv := by
    split
    · exact h.withPpu (h.2.1.setSecOam (by omega) _)
    · exact h
  have h3 := fun (u : State) (hu : u.Inv) =>
    State.Inv.ite (d = 65) hu (hu.withPpu (hu.2.1.withEval (e := .copyY) (n := 0) (slot := 0) (count := 0)
      ⟨by simp, by simp, by simp, by simp, by simp⟩))
  have h4 := fun (u : State) (hu : u.Inv) => State.Inv.ite (65 ≤ d ∧ d ≤ 256) hu (hu.withPpu (evalStep_inv line hu.2.1))
  have h5 := fun (u : State) (hu : u.Inv) =>
    State.Inv.ite (264 ≤ d ∧ d ≤ 320 ∧ d % 8 = 0) hu (spriteFetch_inv ((d - 264) / 8) line hu)
  exact h5 _ (h4 _ (h3 _ h2))

theorem spriteStep_inv (line d : Nat) {s : State} (h : s.Inv) : (spriteStep line d s).Inv := by
  have h1 := State.Inv.ite (d = 257 ∧ (line ≤ 239 ∨ line = 261)) h (h.withPpu (h.2.1.withLine (Store.wf_nil none 256) (by simp)))
  have h2 := fun (u : State) (hu : u.Inv) => State.Inv.ite (line ≤ 239) hu (visibleSpriteStep_inv line d hu)
  exact h2 _ h1

theorem dotEvents_inv (line d : Nat) {s : State} (h : s.Inv) : (dotEvents line d s).Inv := by
  have h1 := State.Inv.ite (line = 240 ∧ d = 0) h (t := s.emit .frame) h
  have h2 : ∀ u : State, u.Inv → (vblankStart u).Inv := by
    intro u hu
    have : (u.ppu.status ||| 0x80#8) &&& 0x7F#8 = 0x00#8 := by
      have := hu.2.1.1
      rw [BitVec.and_comm, BitVec.and_or_distrib_left, BitVec.and_comm 0x7F#8, this]
      decide
    exact ⟨hu.1, ⟨this, hu.2.1.2⟩, hu.2.2⟩
  have h2 := fun (u : State) (hu : u.Inv) => State.Inv.ite (line = 241 ∧ d = 1) hu (h2 u hu)
  have h3 := fun (u : State) (hu : u.Inv) => State.Inv.ite (line = 261 ∧ d = 1) hu (hu.withPpu hu.2.1.clearStatus)
  exact h3 _ (h2 _ h1)

theorem advancePosition_inv {q : Ppu} (h : q.Inv) : (advancePosition q).Inv := by
  have := h.2.1
  unfold advancePosition
  dsimp only
  generalize hk : (if q.scanline = 261 ∧ q.dot = 340 ∧ q.frame % 2 = 1 then 1 else 0) = k
  have hk : k ≤ 1 := by rw [← hk]; split <;> omega
  split
  · split
    · exact ⟨h.1, ⟨by dsimp only; omega, by dsimp only; omega⟩, h.2.2⟩
    · exact ⟨h.1, ⟨by dsimp only; omega, by dsimp only; omega⟩, h.2.2⟩
  · exact ⟨h.1, ⟨h.2.1.1, by dsimp only; omega⟩, h.2.2⟩

/-- A PPU dot keeps the invariant. -/
theorem ppuDot_inv {s : State} (h : s.Inv) : (ppuDot s).Inv := by
  have h1 := State.Inv.ite (s.ppu.scanline ≤ 239 ∧ 1 ≤ s.ppu.dot ∧ s.ppu.dot ≤ 256) h
    (t := emitPixel (s.ppu.dot - 1) s.ppu.scanline s) h
  have h2 := fun (u : State) (hu : u.Inv) =>
    State.Inv.ite ((renderLine s.ppu.scanline && gate u) = true) hu ((backgroundStep_frame s.ppu.scanline s.ppu.dot u).inv hu)
  have h3 := fun (u : State) (hu : u.Inv) =>
    State.Inv.ite (gate u = true) hu (spriteStep_inv s.ppu.scanline s.ppu.dot hu)
  have h4 := dotEvents_inv s.ppu.scanline s.ppu.dot (h3 _ (h2 _ h1))
  exact h4.withPpu (advancePosition_inv h4.2.1)

/-- The parts of the state that no PPU dot touches (R302). -/
abbrev DotFrame (s t : State) : Prop :=
  t.cpu = s.cpu ∧ t.ram = s.ram ∧ t.pad1 = s.pad1 ∧ t.pad2 = s.pad2 ∧ t.cart = s.cart ∧ t.params = s.params ∧ t.inputs = s.inputs

theorem DotFrame.refl (s : State) : DotFrame s s := ⟨rfl, rfl, rfl, rfl, rfl, rfl, rfl⟩

theorem DotFrame.trans {s t u : State} (h : DotFrame s t) (k : DotFrame t u) : DotFrame s u :=
  ⟨k.1.trans h.1, k.2.1.trans h.2.1, k.2.2.1.trans h.2.2.1, k.2.2.2.1.trans h.2.2.2.1, k.2.2.2.2.1.trans h.2.2.2.2.1,
    k.2.2.2.2.2.1.trans h.2.2.2.2.2.1, k.2.2.2.2.2.2.trans h.2.2.2.2.2.2⟩

theorem DotFrame.ite (c : Prop) [Decidable c] {s t : State} (h : DotFrame s t) : DotFrame s (if c then t else s) := by
  split
  · exact h
  · exact DotFrame.refl s

theorem backgroundStep_dotFrame (line d : Nat) (s : State) : DotFrame s (backgroundStep line d s) := by
  rw [backgroundStep_frame line d s]
  exact DotFrame.refl s

theorem spriteStep_dotFrame (line d : Nat) (s : State) : DotFrame s (spriteStep line d s) := by
  rw [spriteStep_frame line d s]
  exact DotFrame.refl s

theorem dotEvents_dotFrame (line d : Nat) (s : State) : DotFrame s (dotEvents line d s) := by
  rw [dotEvents_frame line d s]
  exact DotFrame.refl s

theorem ppuDot_dotFrame (s : State) : DotFrame s (ppuDot s) := by
  have h1 := DotFrame.ite (s.ppu.scanline ≤ 239 ∧ 1 ≤ s.ppu.dot ∧ s.ppu.dot ≤ 256) (s := s)
    (t := emitPixel (s.ppu.dot - 1) s.ppu.scanline s) (DotFrame.refl s)
  have h2 := fun u : State =>
    DotFrame.ite ((renderLine s.ppu.scanline && gate u) = true) (backgroundStep_dotFrame s.ppu.scanline s.ppu.dot u)
  have h3 := fun u : State => DotFrame.ite (gate u = true) (spriteStep_dotFrame s.ppu.scanline s.ppu.dot u)
  exact ((h1.trans (h2 _)).trans (h3 _)).trans (dotEvents_dotFrame s.ppu.scanline s.ppu.dot _)

theorem finishCycle_dotFrame (s : State) : DotFrame s.countCycle (finishCycle s) :=
  ((ppuDot_dotFrame _).trans (ppuDot_dotFrame _)).trans (ppuDot_dotFrame _)

theorem resetSequence_eq (s : State) :
    resetSequence s = { s with
      cpu := { s.cpu with
        sp := s.cpu.sp - 3#8
        p := setFlag s.cpu.p .i true
        pc := Word.ofBytes (s.cart.prgByte 0x7FFD) (s.cart.prgByte 0x7FFC)
        stall := 7 }
      nmiLine := false
      ppu := s.ppu.afterReset } := by
  unfold resetSequence
  dsimp only
  rw [read16_of_prg cpuDecode_vectors.2.2.1 cpuDecode_vectors.2.2.2.1]
  rfl

theorem resetSequence_inv {s : State} (h : s.Inv) : (resetSequence s).Inv := by
  rw [resetSequence_eq]
  refine ⟨(h.setFlag (f := .i) true (by decide) (by decide)).1, ⟨h.2.1.1, ⟨by simp [Ppu.afterReset], by simp [Ppu.afterReset]⟩,
    ⟨by simp [Ppu.afterReset], by simp [Ppu.afterReset], by simp [Ppu.afterReset], by simp [Ppu.afterReset],
      by simp [Ppu.afterReset]⟩, by simp [Ppu.afterReset], h.2.1.2.2.2.2.1, h.2.1.2.2.2.2.2.1, h.2.1.2.2.2.2.2.2.1,
    h.2.1.secOam, Store.wf_nil ..⟩, h.2.2⟩

theorem takeInput_inv {s : State} (h : s.Inv) : (takeInput s).Inv := by
  unfold takeInput
  split
  · exact h
  · dsimp only
    split
    · exact resetSequence_inv h
    · exact h

theorem finishCycle_inv {s : State} (h : s.Inv) : (finishCycle s).Inv := by
  have k : s.countCycle.Inv := h
  exact ppuDot_inv (ppuDot_inv (ppuDot_inv k))

end Sys2Proof.Machine
end

