-- ==== Sys2Proof/Tests/Slice0.lean ====
section
/-! SUPPORT. Tests of the model, each a theorem about at most one step, with expected results from the examples of the rules and the
vectors of 95_test_vectors.md; the smoke tests of the well-formedness checks; and the witnesses of the statements' hypotheses. -/

namespace Sys2Proof.Tests
open Sys2Proof Sys2Proof.Machine

/-- The boot state of 95_test_vectors.md at its first instruction, without a program. -/
def base : State :=
  { State.reset with cpu := { a := 0x00#8, x := 0x00#8, y := 0x00#8, sp := 0xFD#8, pc := 0x8000#16, p := 0x24#8, stall := 0, cyc := 7 } }

/-- The default parameters, with the gated opcodes admitted. -/
def admitting : Params := { Params.default with admitTier3 := true }

/-- The boot state with the gated opcodes admitted. -/
def gatedBase : State := { base with params := admitting }

/-- The state after a next outcome. -/
def nextOf : Result → Option State
  | .next t => some t
  | .fault _ | .refused _ => none

/-- The fault of an outcome. -/
def faultOf : Result → Option Fault
  | .fault f => some f
  | .next _ | .refused _ => none

/-- What a test looks at after an instruction: the registers, its cycles, and some bytes of work RAM. -/
structure Seen where
  a : Byte
  x : Byte
  y : Byte
  p : Byte
  sp : Byte
  pc : Word
  cycles : Nat
  bytes : List Byte
  deriving DecidableEq

/-- What is seen after an outcome, with the bytes of work RAM at some indexes. -/
def outOf (r : Result) (l : List Nat) : Option Seen :=
  (nextOf r).map fun t => ⟨t.cpu.a, t.cpu.x, t.cpu.y, t.cpu.p, t.cpu.sp, t.cpu.pc, t.cpu.stall + 1, l.map (Memory.read .ram t.ram)⟩

/-- The state after a write that raises no fault. -/
def written : Except Fault State → State
  | .ok t => t
  | .error _ => base

/-! ### Well-formedness: what each check refuses -/

/-- A row that every check admits: `LDA $nnnn,X`. -/
def goodRow : Row := (Instr.ldaAbx 0x0000#16).row

theorem test_good_row : goodRow.wellFormed = true := by decide

theorem test_row_without_mode_refused : ({ goodRow with mode := .none } : Row).hasMode = false := by decide

theorem test_row_without_cost_refused : ({ goodRow with baseCycles := 1 } : Row).costsEnough = false := by decide

theorem test_row_with_idle_penalty_refused : ({ goodRow with mode := .zeroPage } : Row).penaltyFits = false := by decide

theorem test_row_with_wrong_official_bit_refused : ({ goodRow with official := false } : Row).officialFits = false := by decide

theorem test_halt_row_refused : ({ goodRow with tier := .halt, official := false } : Row).wellFormed = false := by decide

theorem test_halt_slot_ill_formed : Instr.kil02.wellFormed = false ∧ (Instr.xaaImm 0x00#8).wellFormed = true := by decide

/-- An image header with page counts. -/
def header (p c : Byte) : List Byte :=
  [0x4E#8, 0x45#8, 0x53#8, 0x1A#8, p, c, 0x00#8, 0x00#8, 0x00#8, 0x00#8, 0x00#8, 0x00#8, 0x00#8, 0x00#8, 0x00#8, 0x00#8]

theorem test_image_with_three_pages_refused : imageWellFormed (header 0x03#8 0x01#8) = false := by decide

theorem test_image_without_character_page_refused : imageWellFormed (header 0x01#8 0x00#8) = false := by decide

theorem test_short_image_refused : imageWellFormed (header 0x01#8 0x01#8) = false := by decide

theorem test_good_image_admitted (n : Nat) (h : 24576 ≤ n) :
    imageWellFormed (header 0x01#8 0x01#8 ++ List.replicate n 0x00#8) = true := by
  simp [imageWellFormed, imageAdmitted, imagePrgPages, imageChrPages, headerBytes, header]
  omega

/-! ### Decoding: words written out from the opcode matrix (R105, R101) -/

theorem test_decode_load : decode [0xB9#8, 0xF0#8, 0x12#8] = .ok (.ldaAby 0x12F0#16, []) := by decide

theorem test_decode_store : decode [0x96#8, 0xF0#8] = .ok (.stxZpy 0xF0#8, []) := by decide

theorem test_decode_transfer : decode [0x9A#8] = .ok (.txs, []) := by decide

theorem test_decode_arithmetic : decode [0x61#8, 0x20#8] = .ok (.adcIzx 0x20#8, []) := by decide

theorem test_decode_shift : decode [0x7E#8, 0xFF#8, 0x02#8] = .ok (.rorAbx 0x02FF#16, []) := by decide

theorem test_decode_control : decode [0x20#8, 0x00#8, 0x90#8, 0xEA#8] = .ok (.jsrAbs 0x9000#16, [0xEA#8]) := by decide

theorem test_decode_branch : decode [0x70#8, 0x02#8] = .ok (.bvs 0x02#8, []) := by decide

theorem test_decode_stack_and_flags : decode [0x08#8] = .ok (.php, []) ∧ decode [0xB8#8] = .ok (.clv, []) := by decide

theorem test_decode_fused : decode [0x1F#8, 0xFF#8, 0x02#8] = .ok (.sloAbx 0x02FF#16, []) := by decide

theorem test_decode_gated : decode [0x93#8, 0x40#8] = .ok (.ahxIzy 0x40#8, []) := by decide

theorem test_decode_halt : decode [0xF2#8] = .ok (.kilF2, []) := by decide

theorem test_decode_rejects_missing_bytes : ∀ i, decode [0xAD#8, 0x00#8] ≠ .ok i := by
  intro i h
  have : (match decode [0xAD#8, 0x00#8] with | .ok _ => true | .error _ => false) = false := by decide
  rw [h] at this
  cases this

theorem test_table_word : decodeTableWord 24 0x1234BD = some (.ldaAbx 0x1234#16) := by decide

/-! ### One instruction, one step -/

/-- R170. -/
theorem test_lda : outOf (exec (.ldaImm 0x05#8) base) [] =
    some ⟨0x05#8, 0x00#8, 0x00#8, 0x24#8, 0xFD#8, 0x8002#16, 2, []⟩ := by decide

/-- R171. -/
theorem test_ldx : outOf (exec (.ldxImm 0xFF#8) base) [] =
    some ⟨0x00#8, 0xFF#8, 0x00#8, 0xA4#8, 0xFD#8, 0x8002#16, 2, []⟩ := by decide

/-- R145, R171. -/
theorem test_ldx_zpy_wraps : outOf (exec (.ldxZpy 0xFF#8)
    { base with cpu := { base.cpu with y := 0x01#8 }, ram := [(0x0, 0x80#8)] }) [] =
    some ⟨0x00#8, 0x80#8, 0x01#8, 0xA4#8, 0xFD#8, 0x8002#16, 4, []⟩ := by decide

/-- R172. -/
theorem test_ldy : outOf (exec (.ldyImm 0x00#8) { base with cpu := { base.cpu with y := 0x07#8 } }) [] =
    some ⟨0x00#8, 0x00#8, 0x00#8, 0x26#8, 0xFD#8, 0x8002#16, 2, []⟩ := by decide

/-- R173. -/
theorem test_sta : outOf (exec (.staAbs 0x0200#16) { base with cpu := { base.cpu with a := 0x3C#8 } }) [0x200] =
    some ⟨0x3C#8, 0x00#8, 0x00#8, 0x24#8, 0xFD#8, 0x8003#16, 4, [0x3C#8]⟩ := by decide

/-- R174. -/
theorem test_stx : outOf (exec (.stxZp 0x10#8) { base with cpu := { base.cpu with x := 0x07#8 } }) [0x10] =
    some ⟨0x00#8, 0x07#8, 0x00#8, 0x24#8, 0xFD#8, 0x8002#16, 3, [0x07#8]⟩ := by decide

/-- R175. -/
theorem test_sty : outOf (exec (.styZpx 0x10#8) { base with cpu := { base.cpu with x := 0xF8#8, y := 0x09#8 } }) [0x8] =
    some ⟨0x00#8, 0xF8#8, 0x09#8, 0x24#8, 0xFD#8, 0x8002#16, 4, [0x09#8]⟩ := by decide

/-- R176. -/
theorem test_tax : outOf (exec .tax { base with cpu := { base.cpu with a := 0x80#8 } }) [] =
    some ⟨0x80#8, 0x80#8, 0x00#8, 0xA4#8, 0xFD#8, 0x8001#16, 2, []⟩ := by decide

/-- R177. -/
theorem test_tay : outOf (exec .tay { base with cpu := { base.cpu with a := 0x00#8, y := 0x01#8 } }) [] =
    some ⟨0x00#8, 0x00#8, 0x00#8, 0x26#8, 0xFD#8, 0x8001#16, 2, []⟩ := by decide

/-- R178. -/
theorem test_tsx : outOf (exec .tsx base) [] =
    some ⟨0x00#8, 0xFD#8, 0x00#8, 0xA4#8, 0xFD#8, 0x8001#16, 2, []⟩ := by decide

/-- R179. -/
theorem test_txa : outOf (exec .txa { base with cpu := { base.cpu with x := 0x01#8 } }) [] =
    some ⟨0x01#8, 0x01#8, 0x00#8, 0x24#8, 0xFD#8, 0x8001#16, 2, []⟩ := by decide

/-- R180. -/
theorem test_txs : outOf (exec .txs { base with cpu := { base.cpu with x := 0xFF#8 } }) [] =
    some ⟨0x00#8, 0xFF#8, 0x00#8, 0x24#8, 0xFF#8, 0x8001#16, 2, []⟩ := by decide

/-- R181. -/
theorem test_tya : outOf (exec .tya { base with cpu := { base.cpu with y := 0xFF#8 } }) [] =
    some ⟨0xFF#8, 0x00#8, 0xFF#8, 0xA4#8, 0xFD#8, 0x8001#16, 2, []⟩ := by decide

/-- R191. -/
theorem test_adc_overflow : outOf (exec (.adcImm 0x50#8) { base with cpu := { base.cpu with a := 0x50#8 } }) [] =
    some ⟨0xA0#8, 0x00#8, 0x00#8, 0xE4#8, 0xFD#8, 0x8002#16, 2, []⟩ := by decide

/-- R191. -/
theorem test_adc_carry : outOf (exec (.adcImm 0x80#8) { base with cpu := { base.cpu with a := 0x80#8 } }) [] =
    some ⟨0x00#8, 0x00#8, 0x00#8, 0x67#8, 0xFD#8, 0x8002#16, 2, []⟩ := by decide

/-- R193. -/
theorem test_sbc : outOf (exec (.sbcImm 0xF0#8) { base with cpu := { base.cpu with a := 0x50#8, p := 0x25#8 } }) [] =
    some ⟨0x60#8, 0x00#8, 0x00#8, 0x24#8, 0xFD#8, 0x8002#16, 2, []⟩ := by decide

/-- R193. -/
theorem test_sbc_overflow : outOf (exec (.sbcImm 0x01#8) { base with cpu := { base.cpu with a := 0x80#8, p := 0x25#8 } }) [] =
    some ⟨0x7F#8, 0x00#8, 0x00#8, 0x65#8, 0xFD#8, 0x8002#16, 2, []⟩ := by decide

/-- R194. -/
theorem test_and : outOf (exec (.andImm 0x0F#8) { base with cpu := { base.cpu with a := 0xF0#8 } }) [] =
    some ⟨0x00#8, 0x00#8, 0x00#8, 0x26#8, 0xFD#8, 0x8002#16, 2, []⟩ := by decide

/-- R195. -/
theorem test_ora : outOf (exec (.oraImm 0x80#8) { base with cpu := { base.cpu with a := 0x01#8 } }) [] =
    some ⟨0x81#8, 0x00#8, 0x00#8, 0xA4#8, 0xFD#8, 0x8002#16, 2, []⟩ := by decide

/-- R196. -/
theorem test_eor : outOf (exec (.eorImm 0xFF#8) { base with cpu := { base.cpu with a := 0xFF#8 } }) [] =
    some ⟨0x00#8, 0x00#8, 0x00#8, 0x26#8, 0xFD#8, 0x8002#16, 2, []⟩ := by decide

/-- R198. -/
theorem test_cmp : outOf (exec (.cmpImm 0x10#8) { base with cpu := { base.cpu with a := 0x10#8 } }) [] =
    some ⟨0x10#8, 0x00#8, 0x00#8, 0x27#8, 0xFD#8, 0x8002#16, 2, []⟩ := by decide

/-- R198. -/
theorem test_cmp_not_signed : outOf (exec (.cmpImm 0x01#8) { base with cpu := { base.cpu with a := 0x80#8 } }) [] =
    some ⟨0x80#8, 0x00#8, 0x00#8, 0x25#8, 0xFD#8, 0x8002#16, 2, []⟩ := by decide

/-- R199. -/
theorem test_cpx : outOf (exec (.cpxImm 0x05#8) { base with cpu := { base.cpu with x := 0x03#8 } }) [] =
    some ⟨0x00#8, 0x03#8, 0x00#8, 0xA4#8, 0xFD#8, 0x8002#16, 2, []⟩ := by decide

/-- R200. -/
theorem test_cpy : outOf (exec (.cpyImm 0x00#8) { base with cpu := { base.cpu with y := 0x00#8 } }) [] =
    some ⟨0x00#8, 0x00#8, 0x00#8, 0x27#8, 0xFD#8, 0x8002#16, 2, []⟩ := by decide

/-- R201. -/
theorem test_bit : outOf (exec (.bitZp 0x10#8) { base with cpu := { base.cpu with a := 0x01#8 }, ram := [(0x10, 0xC0#8)] }) [] =
    some ⟨0x01#8, 0x00#8, 0x00#8, 0xE6#8, 0xFD#8, 0x8002#16, 3, []⟩ := by decide

/-- R202. -/
theorem test_inc : outOf (exec (.incZp 0x10#8) { base with ram := [(0x10, 0x7F#8)] }) [0x10] =
    some ⟨0x00#8, 0x00#8, 0x00#8, 0xA4#8, 0xFD#8, 0x8002#16, 5, [0x80#8]⟩ := by decide

/-- R203. -/
theorem test_dec : outOf (exec (.decZp 0x10#8) { base with ram := [(0x10, 0x01#8)] }) [0x10] =
    some ⟨0x00#8, 0x00#8, 0x00#8, 0x26#8, 0xFD#8, 0x8002#16, 5, [0x00#8]⟩ := by decide

/-- R204. -/
theorem test_inx : outOf (exec .inx { base with cpu := { base.cpu with x := 0xFF#8 } }) [] =
    some ⟨0x00#8, 0x00#8, 0x00#8, 0x26#8, 0xFD#8, 0x8001#16, 2, []⟩ := by decide

/-- R205. -/
theorem test_iny : outOf (exec .iny { base with cpu := { base.cpu with y := 0x7F#8 } }) [] =
    some ⟨0x00#8, 0x00#8, 0x80#8, 0xA4#8, 0xFD#8, 0x8001#16, 2, []⟩ := by decide

/-- R206. -/
theorem test_dex : outOf (exec .dex { base with cpu := { base.cpu with x := 0x00#8 } }) [] =
    some ⟨0x00#8, 0xFF#8, 0x00#8, 0xA4#8, 0xFD#8, 0x8001#16, 2, []⟩ := by decide

/-- R207. -/
theorem test_dey : outOf (exec .dey { base with cpu := { base.cpu with y := 0x01#8 } }) [] =
    some ⟨0x00#8, 0x00#8, 0x00#8, 0x26#8, 0xFD#8, 0x8001#16, 2, []⟩ := by decide

/-- R221. -/
theorem test_asl : outOf (exec .aslAcc { base with cpu := { base.cpu with a := 0x81#8 } }) [] =
    some ⟨0x02#8, 0x00#8, 0x00#8, 0x25#8, 0xFD#8, 0x8001#16, 2, []⟩ := by decide

/-- R222. -/
theorem test_lsr : outOf (exec (.lsrZp 0x10#8) { base with ram := [(0x10, 0x03#8)] }) [0x10] =
    some ⟨0x00#8, 0x00#8, 0x00#8, 0x25#8, 0xFD#8, 0x8002#16, 5, [0x01#8]⟩ := by decide

/-- R223. -/
theorem test_rol : outOf (exec .rolAcc { base with cpu := { base.cpu with a := 0x40#8, p := 0x25#8 } }) [] =
    some ⟨0x81#8, 0x00#8, 0x00#8, 0xA4#8, 0xFD#8, 0x8001#16, 2, []⟩ := by decide

/-- R224. -/
theorem test_ror : outOf (exec .rorAcc { base with cpu := { base.cpu with a := 0x01#8, p := 0x25#8 } }) [] =
    some ⟨0x80#8, 0x00#8, 0x00#8, 0xA5#8, 0xFD#8, 0x8001#16, 2, []⟩ := by decide

/-- R230. -/
theorem test_jmp : outOf (exec (.jmpAbs 0xC5F5#16) base) [] =
    some ⟨0x00#8, 0x00#8, 0x00#8, 0x24#8, 0xFD#8, 0xC5F5#16, 3, []⟩ := by decide

/-- R150. -/
theorem test_jmp_page_wrap : outOf (exec (.jmpInd 0x02FF#16)
    { base with ram := [(0x200, 0x12#8), (0x2FF, 0x34#8), (0x300, 0x56#8)] }) [] =
    some ⟨0x00#8, 0x00#8, 0x00#8, 0x24#8, 0xFD#8, 0x1234#16, 5, []⟩ := by decide

/-- R231. -/
theorem test_jsr : outOf (exec (.jsrAbs 0x9000#16) base) [0x1FD, 0x1FC] =
    some ⟨0x00#8, 0x00#8, 0x00#8, 0x24#8, 0xFB#8, 0x9000#16, 6, [0x80#8, 0x02#8]⟩ := by decide

/-- R232. -/
theorem test_rts : outOf (exec .rts
    { base with cpu := { base.cpu with sp := 0xFB#8, pc := 0x9000#16 }, ram := [(0x1FC, 0x02#8), (0x1FD, 0x80#8)] }) [] =
    some ⟨0x00#8, 0x00#8, 0x00#8, 0x24#8, 0xFD#8, 0x8003#16, 6, []⟩ := by decide

/-- R233. -/
theorem test_rti : outOf (exec .rti
    { base with cpu := { base.cpu with sp := 0xFA#8 }, ram := [(0x1FB, 0xD3#8), (0x1FC, 0x34#8), (0x1FD, 0x12#8)] }) [] =
    some ⟨0x00#8, 0x00#8, 0x00#8, 0xE3#8, 0xFD#8, 0x1234#16, 6, []⟩ := by decide

/-- R234. -/
theorem test_brk : outOf (exec .brk { base with cart := { Cartridge.blank with prg := [(0x7FFF, 0xC0#8)] } }) [0x1FD, 0x1FC, 0x1FB] =
    some ⟨0x00#8, 0x00#8, 0x00#8, 0x24#8, 0xFA#8, 0xC000#16, 7, [0x80#8, 0x02#8, 0x34#8]⟩ := by decide

/-- R236. -/
theorem test_bcc : outOf (exec (.bcc 0x05#8) base) [] =
    some ⟨0x00#8, 0x00#8, 0x00#8, 0x24#8, 0xFD#8, 0x8007#16, 3, []⟩ := by decide

/-- R237. -/
theorem test_bcs : outOf (exec (.bcs 0x05#8) base) [] =
    some ⟨0x00#8, 0x00#8, 0x00#8, 0x24#8, 0xFD#8, 0x8002#16, 2, []⟩ := by decide

/-- R238. -/
theorem test_beq : outOf (exec (.beq 0x7F#8) { base with cpu := { base.cpu with p := 0x26#8, pc := 0x80F0#16 } }) [] =
    some ⟨0x00#8, 0x00#8, 0x00#8, 0x26#8, 0xFD#8, 0x8171#16, 4, []⟩ := by decide

/-- R239. -/
theorem test_bmi : outOf (exec (.bmi 0xFE#8) { base with cpu := { base.cpu with p := 0xA4#8 } }) [] =
    some ⟨0x00#8, 0x00#8, 0x00#8, 0xA4#8, 0xFD#8, 0x8000#16, 3, []⟩ := by decide

/-- R240. -/
theorem test_bne : outOf (exec (.bne 0xFC#8) { base with cpu := { base.cpu with pc := 0x8100#16 } }) [] =
    some ⟨0x00#8, 0x00#8, 0x00#8, 0x24#8, 0xFD#8, 0x80FE#16, 4, []⟩ := by decide

/-- R241. -/
theorem test_bpl : outOf (exec (.bpl 0xFB#8) { base with cpu := { base.cpu with pc := 0x8003#16 } }) [] =
    some ⟨0x00#8, 0x00#8, 0x00#8, 0x24#8, 0xFD#8, 0x8000#16, 3, []⟩ := by decide

/-- R242. -/
theorem test_bvc : outOf (exec (.bvc 0x02#8) { base with cpu := { base.cpu with p := 0x64#8 } }) [] =
    some ⟨0x00#8, 0x00#8, 0x00#8, 0x64#8, 0xFD#8, 0x8002#16, 2, []⟩ := by decide

/-- R243. -/
theorem test_bvs : outOf (exec (.bvs 0x02#8) { base with cpu := { base.cpu with p := 0x64#8 } }) [] =
    some ⟨0x00#8, 0x00#8, 0x00#8, 0x64#8, 0xFD#8, 0x8004#16, 3, []⟩ := by decide

/-- R250. -/
theorem test_pha : outOf (exec .pha { base with cpu := { base.cpu with a := 0x42#8 } }) [0x1FD] =
    some ⟨0x42#8, 0x00#8, 0x00#8, 0x24#8, 0xFC#8, 0x8001#16, 3, [0x42#8]⟩ := by decide

/-- R250. -/
theorem test_pha_wraps : outOf (exec .pha { base with cpu := { base.cpu with a := 0x42#8, sp := 0x00#8 } }) [0x100] =
    some ⟨0x42#8, 0x00#8, 0x00#8, 0x24#8, 0xFF#8, 0x8001#16, 3, [0x42#8]⟩ := by decide

/-- R251. -/
theorem test_php : outOf (exec .php base) [0x1FD] =
    some ⟨0x00#8, 0x00#8, 0x00#8, 0x24#8, 0xFC#8, 0x8001#16, 3, [0x34#8]⟩ := by decide

/-- R252. -/
theorem test_pla : outOf (exec .pla { base with cpu := { base.cpu with a := 0x09#8, sp := 0xFC#8 } }) [] =
    some ⟨0x00#8, 0x00#8, 0x00#8, 0x26#8, 0xFD#8, 0x8001#16, 4, []⟩ := by decide

/-- R253. -/
theorem test_plp : outOf (exec .plp
    { base with cpu := { base.cpu with p := 0xE3#8, sp := 0xFC#8 }, ram := [(0x1FD, 0x34#8)] }) [] =
    some ⟨0x00#8, 0x00#8, 0x00#8, 0x24#8, 0xFD#8, 0x8001#16, 4, []⟩ := by decide

/-- R253. -/
theorem test_plp_forces_bits : outOf (exec .plp
    { base with cpu := { base.cpu with sp := 0xFC#8 }, ram := [(0x1FD, 0xFF#8)] }) [] =
    some ⟨0x00#8, 0x00#8, 0x00#8, 0xEF#8, 0xFD#8, 0x8001#16, 4, []⟩ := by decide

/-- R254. -/
theorem test_clc : outOf (exec .clc { base with cpu := { base.cpu with p := 0x25#8 } }) [] =
    some ⟨0x00#8, 0x00#8, 0x00#8, 0x24#8, 0xFD#8, 0x8001#16, 2, []⟩ := by decide

/-- R255. -/
theorem test_cld : outOf (exec .cld { base with cpu := { base.cpu with p := 0x2C#8 } }) [] =
    some ⟨0x00#8, 0x00#8, 0x00#8, 0x24#8, 0xFD#8, 0x8001#16, 2, []⟩ := by decide

/-- R256. -/
theorem test_cli : outOf (exec .cli { base with cpu := { base.cpu with p := 0x24#8 } }) [] =
    some ⟨0x00#8, 0x00#8, 0x00#8, 0x20#8, 0xFD#8, 0x8001#16, 2, []⟩ := by decide

/-- R257. -/
theorem test_clv : outOf (exec .clv { base with cpu := { base.cpu with p := 0x64#8 } }) [] =
    some ⟨0x00#8, 0x00#8, 0x00#8, 0x24#8, 0xFD#8, 0x8001#16, 2, []⟩ := by decide

/-- R258. -/
theorem test_sec : outOf (exec .sec { base with cpu := { base.cpu with p := 0x24#8 } }) [] =
    some ⟨0x00#8, 0x00#8, 0x00#8, 0x25#8, 0xFD#8, 0x8001#16, 2, []⟩ := by decide

/-- R259. -/
theorem test_sed : outOf (exec .sed { base with cpu := { base.cpu with p := 0x24#8 } }) [] =
    some ⟨0x00#8, 0x00#8, 0x00#8, 0x2C#8, 0xFD#8, 0x8001#16, 2, []⟩ := by decide

/-- R260. -/
theorem test_sei : outOf (exec .sei { base with cpu := { base.cpu with p := 0x20#8 } }) [] =
    some ⟨0x00#8, 0x00#8, 0x00#8, 0x24#8, 0xFD#8, 0x8001#16, 2, []⟩ := by decide

/-- R261. -/
theorem test_nop : outOf (exec .nop base) [] =
    some ⟨0x00#8, 0x00#8, 0x00#8, 0x24#8, 0xFD#8, 0x8001#16, 2, []⟩ := by decide

/-- R271. -/
theorem test_nop_page_penalty : outOf (exec (.nopAbx1C 0x12F0#16) { base with cpu := { base.cpu with x := 0x20#8 } }) [] =
    some ⟨0x00#8, 0x20#8, 0x00#8, 0x24#8, 0xFD#8, 0x8003#16, 5, []⟩ := by decide

/-- R272. -/
theorem test_lax : outOf (exec (.laxZp 0x10#8) { base with ram := [(0x10, 0x8F#8)] }) [] =
    some ⟨0x8F#8, 0x8F#8, 0x00#8, 0xA4#8, 0xFD#8, 0x8002#16, 3, []⟩ := by decide

/-- R273. -/
theorem test_sax : outOf (exec (.saxZp 0x10#8) { base with cpu := { base.cpu with a := 0xF0#8, x := 0x3C#8 } }) [0x10] =
    some ⟨0xF0#8, 0x3C#8, 0x00#8, 0x24#8, 0xFD#8, 0x8002#16, 3, [0x30#8]⟩ := by decide

/-- R275. -/
theorem test_dcp : outOf (exec (.dcpZp 0x10#8) { base with cpu := { base.cpu with a := 0x40#8 }, ram := [(0x10, 0x41#8)] }) [0x10] =
    some ⟨0x40#8, 0x00#8, 0x00#8, 0x27#8, 0xFD#8, 0x8002#16, 5, [0x40#8]⟩ := by decide

/-- R276. -/
theorem test_isb : outOf (exec (.isbZp 0x10#8)
    { base with cpu := { base.cpu with a := 0x20#8, p := 0x25#8 }, ram := [(0x10, 0x0F#8)] }) [0x10] =
    some ⟨0x10#8, 0x00#8, 0x00#8, 0x25#8, 0xFD#8, 0x8002#16, 5, [0x10#8]⟩ := by decide

/-- R277. -/
theorem test_slo : outOf (exec (.sloZp 0x10#8) { base with cpu := { base.cpu with a := 0x01#8 }, ram := [(0x10, 0x81#8)] }) [0x10] =
    some ⟨0x03#8, 0x00#8, 0x00#8, 0x25#8, 0xFD#8, 0x8002#16, 5, [0x02#8]⟩ := by decide

/-- R278. -/
theorem test_rla : outOf (exec (.rlaZp 0x10#8)
    { base with cpu := { base.cpu with a := 0xFF#8, p := 0x25#8 }, ram := [(0x10, 0x40#8)] }) [0x10] =
    some ⟨0x81#8, 0x00#8, 0x00#8, 0xA4#8, 0xFD#8, 0x8002#16, 5, [0x81#8]⟩ := by decide

/-- R279. -/
theorem test_sre : outOf (exec (.sreZp 0x10#8) { base with cpu := { base.cpu with a := 0x01#8 }, ram := [(0x10, 0x03#8)] }) [0x10] =
    some ⟨0x00#8, 0x00#8, 0x00#8, 0x27#8, 0xFD#8, 0x8002#16, 5, [0x01#8]⟩ := by decide

/-- R280. -/
theorem test_rra : outOf (exec (.rraZp 0x10#8) { base with cpu := { base.cpu with a := 0x10#8 }, ram := [(0x10, 0x03#8)] }) [0x10] =
    some ⟨0x12#8, 0x00#8, 0x00#8, 0x24#8, 0xFD#8, 0x8002#16, 5, [0x01#8]⟩ := by decide

/-- R282. -/
theorem test_anc : outOf (exec (.ancImm0B 0x80#8) { gatedBase with cpu := { base.cpu with a := 0xFF#8 } }) [] =
    some ⟨0x80#8, 0x00#8, 0x00#8, 0xA5#8, 0xFD#8, 0x8002#16, 2, []⟩ := by decide

/-- R283. -/
theorem test_alr : outOf (exec (.alrImm 0x03#8) { gatedBase with cpu := { base.cpu with a := 0xFF#8 } }) [] =
    some ⟨0x01#8, 0x00#8, 0x00#8, 0x25#8, 0xFD#8, 0x8002#16, 2, []⟩ := by decide

/-- R284. -/
theorem test_arr : outOf (exec (.arrImm 0xFF#8) { gatedBase with cpu := { base.cpu with a := 0xC0#8, p := 0x64#8 } }) [] =
    some ⟨0x60#8, 0x00#8, 0x00#8, 0x25#8, 0xFD#8, 0x8002#16, 2, []⟩ := by decide

/-- R285. -/
theorem test_axs : outOf (exec (.axsImm 0x01#8) { gatedBase with cpu := { base.cpu with a := 0xFF#8, x := 0x10#8 } }) [] =
    some ⟨0xFF#8, 0x0F#8, 0x00#8, 0x25#8, 0xFD#8, 0x8002#16, 2, []⟩ := by decide

/-- R286. -/
theorem test_las : outOf (exec (.lasAby 0x0200#16)
    { gatedBase with cpu := { base.cpu with sp := 0x3C#8 }, ram := [(0x200, 0xF0#8)] }) [] =
    some ⟨0x30#8, 0x30#8, 0x00#8, 0x24#8, 0x30#8, 0x8003#16, 4, []⟩ := by decide

/-- R287. -/
theorem test_xaa : outOf (exec (.xaaImm 0x0F#8)
    { gatedBase with cpu := { base.cpu with x := 0xFF#8 }, params := { admitting with magic := 0xEE#8 } }) [] =
    some ⟨0x0E#8, 0xFF#8, 0x00#8, 0x24#8, 0xFD#8, 0x8002#16, 2, []⟩ := by decide

/-- R288. -/
theorem test_lxa : outOf (exec (.lxaImm 0x55#8) { gatedBase with params := { admitting with magic := 0xFF#8 } }) [] =
    some ⟨0x55#8, 0x55#8, 0x00#8, 0x24#8, 0xFD#8, 0x8002#16, 2, []⟩ := by decide

/-- R289. -/
theorem test_ahx : outOf (exec (.ahxAby 0x0200#16) { gatedBase with cpu := { base.cpu with a := 0xFF#8, x := 0x0F#8 } }) [0x200] =
    some ⟨0xFF#8, 0x0F#8, 0x00#8, 0x24#8, 0xFD#8, 0x8003#16, 5, [0x03#8]⟩ := by decide

/-- R290. -/
theorem test_shy : outOf (exec (.shyAbx 0x0200#16) { gatedBase with cpu := { base.cpu with y := 0xFF#8 } }) [0x200] =
    some ⟨0x00#8, 0x00#8, 0xFF#8, 0x24#8, 0xFD#8, 0x8003#16, 5, [0x03#8]⟩ := by decide

/-- R291. -/
theorem test_shx : outOf (exec (.shxAby 0x0200#16) { gatedBase with cpu := { base.cpu with x := 0x01#8 } }) [0x200] =
    some ⟨0x00#8, 0x01#8, 0x00#8, 0x24#8, 0xFD#8, 0x8003#16, 5, [0x01#8]⟩ := by decide

/-- R292. -/
theorem test_tas : outOf (exec (.tasAby 0x0200#16) { gatedBase with cpu := { base.cpu with a := 0xF3#8, x := 0x3F#8 } }) [0x200] =
    some ⟨0xF3#8, 0x3F#8, 0x00#8, 0x24#8, 0x33#8, 0x8003#16, 5, [0x03#8]⟩ := by decide

/-- R144. -/
theorem test_zpx_wraps : outOf (exec (.ldyZpx 0xF0#8)
    { base with cpu := { base.cpu with x := 0x20#8 }, ram := [(0x10, 0x01#8)] }) [] =
    some ⟨0x00#8, 0x20#8, 0x01#8, 0x24#8, 0xFD#8, 0x8002#16, 4, []⟩ := by decide

/-- R148, R159. -/
theorem test_abx_crosses : outOf (exec (.andAbx 0x12F0#16)
    { base with cpu := { base.cpu with a := 0xFF#8, x := 0x20#8 }, ram := [(0x310, 0x80#8)] }) [] =
    some ⟨0x80#8, 0x20#8, 0x00#8, 0xA4#8, 0xFD#8, 0x8003#16, 5, []⟩ := by decide

/-- R159. -/
theorem test_sta_abx_takes_no_penalty : outOf (exec (.staAbx 0x12F0#16)
    { base with cpu := { base.cpu with a := 0x07#8, x := 0x20#8 } }) [0x310] =
    some ⟨0x07#8, 0x20#8, 0x00#8, 0x24#8, 0xFD#8, 0x8003#16, 5, [0x07#8]⟩ := by decide

/-- R151. -/
theorem test_izx_wraps : outOf (exec (.oraIzx 0xFE#8)
    { base with cpu := { base.cpu with x := 0x01#8 }, ram := [(0x0, 0x04#8), (0x400, 0x11#8)] }) [] =
    some ⟨0x11#8, 0x01#8, 0x00#8, 0x24#8, 0xFD#8, 0x8002#16, 6, []⟩ := by decide

/-- R152. -/
theorem test_izy_wraps : outOf (exec (.eorIzy 0xFF#8)
    { base with cpu := { base.cpu with y := 0x10#8 }, ram := [(0x0, 0x02#8), (0xFF, 0xF8#8), (0x308, 0x80#8)] }) [] =
    some ⟨0x80#8, 0x00#8, 0x10#8, 0xA4#8, 0xFD#8, 0x8002#16, 6, []⟩ := by decide

/-- R159. -/
theorem test_inc_abx_cost : outOf (exec (.incAbx 0x12F0#16) { base with cpu := { base.cpu with x := 0x20#8 } }) [0x310] =
    some ⟨0x00#8, 0x20#8, 0x00#8, 0x24#8, 0xFD#8, 0x8003#16, 7, [0x01#8]⟩ := by decide

/-- R235. -/
theorem test_bcs_not_taken_at_edge : outOf (exec (.bcs 0x05#8) { base with cpu := { base.cpu with pc := 0xFFFE#16 } }) [] =
    some ⟨0x00#8, 0x00#8, 0x00#8, 0x24#8, 0xFD#8, 0x0000#16, 2, []⟩ := by decide
/-! ### Faults, the machine cycle, the interrupt, reset (vectors V25, V190 to V192, E1 to E5, S1) -/

/-- V25 (R414). -/
theorem test_rom_write_fault :
    faultOf (exec (.staAbs 0x8000#16) { base with params := { Params.default with romWritePolicy := .fault } }) =
      some (.romWrite 0x8000#16) := by decide

/-- V190 (R281). -/
theorem test_gated_fault : faultOf (exec (.ancImm0B 0x80#8) base) = some (.unknownOpcode 0x0B#8 0x8000#16) := by decide

/-- V192 (R293). -/
theorem test_kil_fault : faultOf (exec .kilF2 gatedBase) = some (.unknownOpcode 0xF2#8 0x8000#16) := by decide

/-- A cartridge with some program bytes and the vectors of the boot state. -/
def cartOf (code : List Byte) : Cartridge :=
  { Cartridge.blank with
    prg := Memory.ofBytes .prg32 0 code ++ [(0x7FFB, 0x90#8), (0x7FFD, 0x80#8), (0x7FFF, 0x91#8)] }

/-- S1, the source's scenario: the machine cycle that executes `LDA #$05` (R455). -/
theorem test_scenario :
    (nextOf (step { base with cart := cartOf [0xA9#8, 0x05#8] })).map
      (fun t => (t.cpu.a, t.cpu.p, t.cpu.pc, t.cpu.stall, t.cpu.cyc, t.ppu.dot)) =
      some (0x05#8, 0x24#8, 0x8002#16, 1, 8, 3) := by decide

/-- S1: a machine cycle that pays stall (R130). -/
theorem test_stall_cycle :
    (nextOf (step { base with cpu := { base.cpu with stall := 7, cyc := 0 } })).map
      (fun t => (t.cpu.stall, t.cpu.cyc, t.cpu.pc, t.ppu.scanline, t.ppu.dot)) = some (6, 1, 0x8000#16, 0, 3) := by decide

/-- E1 (R402, R403). -/
theorem test_nmi_entry :
    outOf (step { base with cpu := { base.cpu with pc := 0x8123#16, p := 0x25#8 }, nmiLine := true, cart := cartOf [] })
      [0x1FD, 0x1FC, 0x1FB] =
    some ⟨0x00#8, 0x00#8, 0x00#8, 0x25#8, 0xFA#8, 0x9000#16, 7, [0x81#8, 0x23#8, 0x25#8]⟩ := by decide

/-- E2 (R402, R160): the pushes wrap inside page 1. -/
theorem test_nmi_entry_wraps :
    outOf (step
      { base with cpu := { base.cpu with pc := 0xFFFF#16, p := 0xEF#8, sp := 0x01#8 }, nmiLine := true, cart := cartOf [] })
      [0x101, 0x100, 0x1FF] =
    some ⟨0x00#8, 0x00#8, 0x00#8, 0xEF#8, 0xFE#8, 0x9000#16, 7, [0xFF#8, 0xFF#8, 0xEF#8]⟩ := by decide

/-- E5 (R407). -/
theorem test_stall_before_nmi :
    (nextOf (step { base with cpu := { base.cpu with stall := 3 }, nmiLine := true })).map
      (fun t => (t.cpu.stall, t.nmiLine, t.cpu.sp)) = some (2, true, 0xFD#8) := by decide

/-- A state with a reset event coming (R452, R428). -/
def resetComing : State :=
  { base with
    cpu := { base.cpu with a := 0x11#8, p := 0xE1#8 }
    cart := cartOf []
    inputs := [{ buttons1 := 0x09#8, buttons2 := 0x80#8, reset := true }] }

/-- R452: the reset comes before the cycle, which pays one of its seven stall cycles. -/
theorem test_reset_event :
    (nextOf (step resetComing)).map (fun t => (t.cpu.a, t.cpu.p, t.cpu.sp, t.cpu.pc, t.cpu.stall)) =
      some (0x11#8, 0xE5#8, 0xFA#8, 0x8000#16, 6) := by decide

/-- R428: the buttons of the cycle. -/
theorem test_buttons_taken :
    (nextOf (step resetComing)).map (fun t => (t.pad1.buttons, t.pad2.buttons, t.inputs.length)) = some (0x09#8, 0x80#8, 0) := by
  decide

/-- Vector M7 and R66: the audio range reads the filler, whatever it is. -/
theorem test_audio_filler (s : State) : memRead 0x4014#16 s = (s.params.apuFiller, s) := rfl

/-! ### Devices on the CPU bus (vectors M2, F5, G1 to G6) -/

/-- M2 (R63). -/
theorem test_ram_mirror : (memRead 0x07FF#16 (written (memWrite 0x1FFF#16 0x5A#8 base))).1 = 0x5A#8 := by decide

/-- M3 (R65): one program page is seen twice. -/
theorem test_program_mirror :
    (memRead 0xC000#16 { base with cart := { pages := .one, prg := [(0, 0x4C#8)], chr := [] } }).1 = 0x4C#8 := by decide

/-- The cost of a DMA transfer (R421), from a page that reads zero. -/
theorem test_dma_stall : (written (memWrite 0x4014#16 0x50#8 base)).cpu.stall = 512 := by decide

/-- G1, G2 (R426, R427). -/
theorem test_controller_after_strobe :
    let s : Controller := (({ strobe := false, shift := 3, buttons := 0x09#8 } : Controller).write 0x01#8).write 0x00#8
    s.shift = 0 ∧ s.read true = 0x01#8 ∧ s.afterRead.read true = 0x00#8 ∧ s.afterRead.afterRead.afterRead.read true = 0x01#8 := by
  decide

/-- G1, G2 (R427): while the strobe is high, and after eight reads. -/
theorem test_controller_ends :
    (({ strobe := true, shift := 0, buttons := 0x09#8 } : Controller).afterRead).shift = 0 ∧
    ({ strobe := false, shift := 8, buttons := 0x00#8 } : Controller).read true = 0x01#8 := by decide

/-! ### PPU ports (vectors H1 to H13) -/

/-- A PPU with given `t`, `v` and `w`. -/
def ppuOf (t v : VramAddr) (w : Bool) : State := { base with ppu := { base.ppu with t := t, v := v, w := w } }

/-- `t`, `v` and `w` after a port write. -/
def addrOf (r : Except Fault State) : VramAddr × VramAddr × Bool :=
  ((written r).ppu.t, (written r).ppu.v, (written r).ppu.w)

/-- H1a (R371). -/
theorem test_control_write : addrOf (ppuPortWrite .control 0x83#8 base) = (0x0C00#15, 0x0000#15, false) := by decide

/-- H1b (R383). -/
theorem test_scroll_first : addrOf (ppuPortWrite .scroll 0x7D#8 (ppuOf 0x0C00#15 0#15 false)) = (0x0C0F#15, 0#15, true) := by decide

/-- H1c (R384). -/
theorem test_scroll_second : addrOf (ppuPortWrite .scroll 0x5E#8 (ppuOf 0x0C0F#15 0#15 true)) = (0x6D6F#15, 0#15, false) := by decide

/-- H1d (R385). -/
theorem test_address_first : addrOf (ppuPortWrite .address 0x3D#8 (ppuOf 0x6D6F#15 0#15 false)) = (0x3D6F#15, 0#15, true) := by decide

/-- H1e (R386). -/
theorem test_address_second :
    addrOf (ppuPortWrite .address 0xF0#8 (ppuOf 0x3D6F#15 0#15 true)) = (0x3DF0#15, 0x3DF0#15, false) := by decide

/-- H4 (R387, R78): 0x3F10 is 0x3F00. -/
theorem test_palette_alias :
    let t := written (ppuPortWrite .data 0x2A#8 (ppuOf 0#15 0x3F10#15 false))
    t.ppu.v = 0x3F11#15 ∧ ppuRead t 0x3F00#16 = 0x2A#8 := by decide

/-- H5 (R388): a buffered read. -/
theorem test_buffered_read :
    let r := ppuPortRead .data { base with ppu := { base.ppu with v := 0x2005#15, vram := [(5, 0x77#8)] } }
    r.1 = 0x00#8 ∧ r.2.ppu.readBuffer = 0x77#8 ∧ r.2.ppu.v = 0x2006#15 := by decide

/-- H7 (R389): the increment by 32 wraps in 15 bits. -/
theorem test_increment_wraps :
    (written (ppuPortWrite .data 0x09#8 { base with ppu := { base.ppu with ctrl := 0x04#8, v := 0x7FF0#15 } })).ppu.v =
      0x0010#15 := by decide

/-- H9 (R381). -/
theorem test_oam_data_write :
    let t := written (ppuPortWrite .oamData 0x12#8 { base with ppu := { base.ppu with oamAddr := 0xFF#8 } })
    t.ppu.oamAddr = 0x00#8 ∧ t.ppu.oamByte 0xFF = 0x12#8 := by decide

/-- H13 (R375). -/
theorem test_status_read :
    let r := ppuPortRead .status { base with ppu := { base.ppu with status := 0x80#8, w := true } }
    r.1 = 0x80#8 ∧ r.2.ppu.status = 0x00#8 ∧ r.2.ppu.w = false := by decide

/-! ### PPU dots (vectors I, A, B, J, K, C) -/

/-- I3, I4, I5 (R320). -/
theorem test_inc_coarse_x :
    incCoarseX 0x001F#15 = 0x0400#15 ∧ incCoarseX 0x041F#15 = 0x0000#15 ∧ incCoarseX 0x7BFF#15 = 0x7FE0#15 := by decide

/-- I8 to I14 (R321). -/
theorem test_inc_y :
    incY 0x7000#15 = 0x0020#15 ∧ incY 0x73A0#15 = 0x0800#15 ∧ incY 0x73C0#15 = 0x03E0#15 ∧ incY 0x73E0#15 = 0x0000#15 ∧
      incY 0x7BBF#15 = 0x001F#15 := by decide

/-- I15 to I18 (R322, R323). -/
theorem test_copies : copyHorizontal 0x7FFF#15 0x0000#15 = 0x7BE0#15 ∧ copyVertical 0x0000#15 0x7FFF#15 = 0x7BE0#15 := by decide

/-- A5, A6 (R313, R314). -/
theorem test_fetch_addresses :
    nametableAddress 0x2FBF#15 = 0x2FBF#16 ∧ attributeAddress 0x2FBF#15 = 0x2FFF#16 ∧ attributeShift 0x7BFF#15 = 6 := by decide

/-- B2, B3 (R348): sixteen rows. -/
theorem test_tall_sprite_address :
    let q : Ppu := { base.ppu with ctrl := 0x20#8 }
    spritePatternAddress q 0x03#8 0x00#8 8 = 0x1030#16 ∧ spritePatternAddress q 0x03#8 0x80#8 0 = 0x1037#16 := by decide

/-- B7 (R348): eight rows. -/
theorem test_sprite_address :
    spritePatternAddress { base.ppu with ctrl := 0x08#8 } 0x01#8 0x80#8 0 = 0x1017#16 := by decide

/-- A PPU at a position. -/
def dotState (line d frame : Nat) : State := { base with ppu := { base.ppu with scanline := line, dot := d, frame := frame } }

/-- R306: the odd-frame skip. -/
theorem test_odd_frame_skip :
    ((ppuDot (dotState 261 340 1)).ppu.dot, (ppuDot (dotState 261 340 0)).ppu.dot, (ppuDot (dotState 261 340 1)).ppu.frame) =
      (1, 0, 2) := by decide

/-- R328, R329, R331. -/
theorem test_vblank_events :
    let s := dotState 241 1 0
    let on := ppuDot { s with ppu := { s.ppu with ctrl := 0x80#8 } }
    (on.ppu.status, on.nmiLine, (ppuDot (dotState 240 0 0)).events) = (0x80#8, true, [Event.frame]) := by decide

/-- K1 (R343): the first step of evaluation finds sprite 0. -/
theorem test_eval_step :
    let q := evalStep 0x30 { base.ppu with oam := [(0, 0x30#8)] }
    (q.evalState, q.secOamByte 0) = (.copyTile, 0x30#8) := by decide

/-- K1 after dot 96 (R345): the eighth sprite ends the evaluation. -/
theorem test_eval_done :
    let q := evalStep 0x30 { base.ppu with evalState := .copyX, evalN := 7, secSlot := 7, spriteCount := 7 }
    (q.evalState, q.evalN, q.secSlot, q.spriteCount) = (.done, 8, 0, 8) := by decide

/-- C1 to C8 (R357). -/
theorem test_compositor :
    let behind : SpritePixel := { colour := 6#4, behind := true }
    let front : SpritePixel := { colour := 6#4, behind := false }
    choose 4#4 none = 0x3F00#16 ∧ choose 5#4 none = 0x3F05#16 ∧ choose 8#4 (some behind) = 0x3F16#16 ∧
      choose 5#4 (some front) = 0x3F16#16 ∧ choose 5#4 (some behind) = 0x3F05#16 := by decide

/-- P6 (R347, R349): tile row F0 over CC, flipped, registers 2 at x = 2 and nothing at x = 0. -/
theorem test_sprite_fetch :
    let s : State := { base with
      ppu := { base.ppu with spriteCount := 1, secOam := [(0, 0x02#8), (1, 0x01#8), (2, 0x60#8), (3, 0x00#8)] }
      cart := { base.cart with chr := [(0x10, 0xF0#8), (0x18, 0xCC#8)] } }
    let line := (spriteFetch 0 2 s).ppu.spriteLine
    spriteLineAt line 2 = some { colour := 2#4, behind := true } ∧ spriteLineAt line 0 = none := by decide

/-- The reset state has the invariant. -/
theorem reset_inv : State.reset.Inv := by decide

/-! ### Witnesses: the hypotheses of the statements are met, clause by clause -/

/-- Every mnemonic is that of some instruction: the hypotheses of the completion statements that name instructions by mnemonic. -/
theorem witness_every_mnemonic : ∀ m : Mnemonic, ∃ i : Instr, i.row.mnemonic = m := by
  intro m
  cases m with
  | lda => exact ⟨.ldaImm 0#8, rfl⟩
  | ldx => exact ⟨.ldxImm 0#8, rfl⟩
  | ldy => exact ⟨.ldyImm 0#8, rfl⟩
  | sta => exact ⟨.staZp 0#8, rfl⟩
  | stx => exact ⟨.stxZp 0#8, rfl⟩
  | sty => exact ⟨.styZp 0#8, rfl⟩
  | tax => exact ⟨.tax, rfl⟩
  | tay => exact ⟨.tay, rfl⟩
  | tsx => exact ⟨.tsx, rfl⟩
  | txa => exact ⟨.txa, rfl⟩
  | txs => exact ⟨.txs, rfl⟩
  | tya => exact ⟨.tya, rfl⟩
  | adc => exact ⟨.adcImm 0#8, rfl⟩
  | sbc => exact ⟨.sbcImm 0#8, rfl⟩
  | and => exact ⟨.andImm 0#8, rfl⟩
  | ora => exact ⟨.oraImm 0#8, rfl⟩
  | eor => exact ⟨.eorImm 0#8, rfl⟩
  | cmp => exact ⟨.cmpImm 0#8, rfl⟩
  | cpx => exact ⟨.cpxImm 0#8, rfl⟩
  | cpy => exact ⟨.cpyImm 0#8, rfl⟩
  | bit => exact ⟨.bitZp 0#8, rfl⟩
  | inc => exact ⟨.incZp 0#8, rfl⟩
  | dec => exact ⟨.decZp 0#8, rfl⟩
  | inx => exact ⟨.inx, rfl⟩
  | iny => exact ⟨.iny, rfl⟩
  | dex => exact ⟨.dex, rfl⟩
  | dey => exact ⟨.dey, rfl⟩
  | asl => exact ⟨.aslAcc, rfl⟩
  | lsr => exact ⟨.lsrAcc, rfl⟩
  | rol => exact ⟨.rolAcc, rfl⟩
  | ror => exact ⟨.rorAcc, rfl⟩
  | jmp => exact ⟨.jmpAbs 0#16, rfl⟩
  | jsr => exact ⟨.jsrAbs 0#16, rfl⟩
  | rts => exact ⟨.rts, rfl⟩
  | rti => exact ⟨.rti, rfl⟩
  | brk => exact ⟨.brk, rfl⟩
  | bcc => exact ⟨.bcc 0#8, rfl⟩
  | bcs => exact ⟨.bcs 0#8, rfl⟩
  | beq => exact ⟨.beq 0#8, rfl⟩
  | bmi => exact ⟨.bmi 0#8, rfl⟩
  | bne => exact ⟨.bne 0#8, rfl⟩
  | bpl => exact ⟨.bpl 0#8, rfl⟩
  | bvc => exact ⟨.bvc 0#8, rfl⟩
  | bvs => exact ⟨.bvs 0#8, rfl⟩
  | pha => exact ⟨.pha, rfl⟩
  | php => exact ⟨.php, rfl⟩
  | pla => exact ⟨.pla, rfl⟩
  | plp => exact ⟨.plp, rfl⟩
  | clc => exact ⟨.clc, rfl⟩
  | cld => exact ⟨.cld, rfl⟩
  | cli => exact ⟨.cli, rfl⟩
  | clv => exact ⟨.clv, rfl⟩
  | sec => exact ⟨.sec, rfl⟩
  | sed => exact ⟨.sed, rfl⟩
  | sei => exact ⟨.sei, rfl⟩
  | nop => exact ⟨.nop, rfl⟩
  | lax => exact ⟨.laxZp 0#8, rfl⟩
  | sax => exact ⟨.saxZp 0#8, rfl⟩
  | dcp => exact ⟨.dcpZp 0#8, rfl⟩
  | isb => exact ⟨.isbZp 0#8, rfl⟩
  | slo => exact ⟨.sloZp 0#8, rfl⟩
  | rla => exact ⟨.rlaZp 0#8, rfl⟩
  | sre => exact ⟨.sreZp 0#8, rfl⟩
  | rra => exact ⟨.rraZp 0#8, rfl⟩
  | anc => exact ⟨.ancImm0B 0#8, rfl⟩
  | alr => exact ⟨.alrImm 0#8, rfl⟩
  | arr => exact ⟨.arrImm 0#8, rfl⟩
  | axs => exact ⟨.axsImm 0#8, rfl⟩
  | las => exact ⟨.lasAby 0#16, rfl⟩
  | xaa => exact ⟨.xaaImm 0#8, rfl⟩
  | lxa => exact ⟨.lxaImm 0#8, rfl⟩
  | ahx => exact ⟨.ahxAby 0#16, rfl⟩
  | shy => exact ⟨.shyAbx 0#16, rfl⟩
  | shx => exact ⟨.shxAby 0#16, rfl⟩
  | tas => exact ⟨.tasAby 0#16, rfl⟩
  | kil => exact ⟨.kil02, rfl⟩

/-- DecodingIsTotalAndLossless: bytes that decode, with bytes left over. -/
theorem witness_DecodingIsTotalAndLossless : decode [0xA5#8, 0x10#8, 0xEA#8] = .ok (.ldaZp 0x10#8, [0xEA#8]) := by decide

/-- TableCostsFollowKindAndMode: a page is crossed. -/
theorem witness_TableCostsFollowKindAndMode :
    (operandsAt (.ldaAbx 0x12F0#16) { base with cpu := { base.cpu with x := 0x20#8 } }).pageCrossed = true := by decide

/-- A state about to run `LDA #$05` from ROM. -/
def ldaNext : State := { base with cart := cartOf [0xA9#8, 0x05#8] }

/-- StepRunsTheDecodedInstruction: a state whose next three bytes, in ROM, decode; and the end of the address space. -/
theorem witness_StepRunsTheDecodedInstruction :
    takeInput ldaNext = ldaNext ∧ ldaNext.cpu.stall = 0 ∧ ldaNext.nmiLine = false ∧ isStorage 0x8000#16 = true ∧
      isStorage 0x8002#16 = true ∧ ldaNext.cpu.pc = 0x8000#16 ∧
      (readBytes 3 ldaNext.cpu.pc ldaNext).1 = [0xA9#8, 0x05#8, 0x00#8] ∧
      decode [0xA9#8, 0x05#8, 0x00#8] = .ok (.ldaImm 0x05#8, [0x00#8]) ∧ isStorage 0xFFFF#16 = true ∧
      isStorage (0xFFFF#16 + 1#16) = true :=
  ⟨rfl, rfl, rfl, by decide, by decide, rfl, by decide, by decide, by decide, by decide⟩

/-- LoadsComplete: an instruction of each kind. -/
theorem witness_LoadsComplete :
    (Instr.ldaAbs 0x2002#16).row.mnemonic = .lda ∧ (Instr.ldxZpy 0xFF#8).row.mnemonic = .ldx ∧
      (Instr.ldyAbx 0xFFFF#16).row.mnemonic = .ldy ∧ (Instr.laxIzy 0xFF#8).row.mnemonic = .lax := by decide

/-- StoresComplete: each pair of mnemonic and byte, and a write that faults beside one that does not. -/
theorem witness_StoresComplete :
    ((Instr.staAbx 0xFFFF#16).row.mnemonic, base.cpu.a) ∈ [(Mnemonic.sta, base.cpu.a), (.stx, base.cpu.x), (.sty, base.cpu.y),
      (.sax, base.cpu.a &&& base.cpu.x)] ∧
    (Instr.stxZpy 0xFF#8).row.mnemonic = .stx ∧ (Instr.styZpx 0xFF#8).row.mnemonic = .sty ∧
    (Instr.saxIzx 0xFF#8).row.mnemonic = .sax ∧
    (∃ t, memWrite 0x7FFF#16 0#8 base = .ok t) ∧
    memWrite 0x8000#16 0#8 { base with params := { Params.default with romWritePolicy := .fault } } = .error (.romWrite 0x8000#16) :=
  ⟨by decide, by decide, by decide, by decide, ⟨base, rfl⟩, rfl⟩

/-- AddAndSubtractComplete. -/
theorem witness_AddAndSubtractComplete :
    (Instr.adcIzy 0xFF#8).row.mnemonic = .adc ∧ (Instr.sbcAbx 0xFFFF#16).row.mnemonic = .sbc ∧
      (Instr.sbcImmEB 0x01#8).row.mnemonic = .sbc := by decide

/-- LogicCompletes: a membership for each of the three. -/
theorem witness_LogicCompletes :
    ((Instr.andZp 0#8).row.mnemonic, (0x0F#8 : Byte)) ∈ [(Mnemonic.and, 0x0F#8), (.ora, 0xFF#8), (.eor, 0xF0#8)] ∧
    ((Instr.oraZp 0#8).row.mnemonic, (0xFF#8 : Byte)) ∈ [(Mnemonic.and, 0x0F#8), (.ora, 0xFF#8), (.eor, 0xF0#8)] ∧
    ((Instr.eorZp 0#8).row.mnemonic, (0xF0#8 : Byte)) ∈ [(Mnemonic.and, 0x0F#8), (.ora, 0xFF#8), (.eor, 0xF0#8)] := by decide

/-- ComparesComplete. -/
theorem witness_ComparesComplete :
    ((Instr.cmpImm 0#8).row.mnemonic, base.cpu.a) ∈ [(Mnemonic.cmp, base.cpu.a), (.cpx, base.cpu.x), (.cpy, base.cpu.y)] ∧
    (Instr.cpxAbs 0#16).row.mnemonic = .cpx ∧ (Instr.cpyAbs 0#16).row.mnemonic = .cpy ∧
    (Instr.bitAbs 0x2002#16).row.mnemonic = .bit := by decide

/-- IncrementsComplete. -/
theorem witness_IncrementsComplete :
    ((Instr.incAbx 0xFFFF#16).row.mnemonic, operandValueAt (.incAbx 0xFFFF#16) base + 1#8) ∈
      [(Mnemonic.inc, operandValueAt (.incAbx 0xFFFF#16) base + 1#8), (.dec, operandValueAt (.incAbx 0xFFFF#16) base - 1#8)] ∧
    (Instr.decZpx 0xFF#8).row.mnemonic = .dec := by decide

/-- ShiftsComplete: both operand selections. -/
theorem witness_ShiftsComplete :
    (Instr.aslAcc).row.mode = .accumulator ∧
    ((Instr.aslAcc).row.mnemonic, (0x02#8 : Byte), true) ∈
      [(Mnemonic.asl, (0x81#8 : Byte) <<< 1, (0x81#8 : Byte).getLsbD 7), (.lsr, (0x81#8 : Byte) >>> 1, (0x81#8 : Byte).getLsbD 0)] ∧
    (Instr.rorAbx 0xFFFF#16).row.mode ≠ .accumulator ∧ (Instr.rolZp 0#8).row.mnemonic = .rol ∧
    (Instr.rorAbx 0xFFFF#16).row.mnemonic = .ror ∧ (Instr.lsrZpx 0#8).row.mnemonic = .lsr := by decide

/-- JumpsComplete: both forms. -/
theorem witness_JumpsComplete : (Instr.jmpAbs 0xFFFF#16).row.mnemonic = .jmp ∧ (Instr.jmpInd 0x02FF#16).row.mnemonic = .jmp := by
  decide

/-- SubroutinesCompleteAndReturn: a `JSR` with SP at its edge, and an `RTS` from the state it leaves. -/
theorem witness_SubroutinesCompleteAndReturn :
    ∃ t v, exec (.jsrAbs 0x9000#16) { base with cpu := { base.cpu with sp := 0x00#8 } } = .next t ∧ exec .rts t = .next v :=
  ⟨_, _, rfl, rfl⟩

/-- BranchesComplete: a branch that is taken, one that is not, and a target in another page. -/
theorem witness_BranchesComplete :
    (Instr.bne 0xFC#8, Flag.z, false) ∈ [(Instr.bcc 0xFC#8, Flag.c, false), (.bcs 0xFC#8, .c, true), (.beq 0xFC#8, .z, true),
      (.bmi 0xFC#8, .n, true), (.bne 0xFC#8, .z, false)] ∧
    getFlag base.cpu.p .z = false ∧ getFlag base.cpu.p .z ≠ true ∧
    ((0x8100#16 : Word) + 2#16 + (0xFC#8 : Byte).signExtend 16).toNat / 256 ≠ ((0x8100#16 : Word) + 2#16).toNat / 256 := by decide

/-- StackInstructionsComplete: the pulled byte with SP at its edge. -/
theorem witness_StackInstructionsComplete :
    Memory.read .ram [(0x100, 0x80#8)] (0x100 + ((0xFF#8 : Byte) + 1#8).toNat) = 0x80#8 := by decide

/-- FlagInstructionsComplete. -/
theorem witness_FlagInstructionsComplete :
    (Instr.sei, Flag.i, true) ∈ [(Instr.clc, Flag.c, false), (.cld, .d, false), (.cli, .i, false), (.clv, .v, false),
      (.sec, .c, true), (.sed, .d, true), (.sei, .i, true)] := by decide

/-- NopsComplete: the official form and an indexed one. -/
theorem witness_NopsComplete : Instr.nop.row.mnemonic = .nop ∧ (Instr.nopAbx1C 0x2002#16).row.mnemonic = .nop := by decide

/-- FusedInstructionsComplete: an instruction of each kind. -/
theorem witness_FusedInstructionsComplete :
    (Instr.dcpIzy 0xFF#8).row.mnemonic = .dcp ∧ (Instr.isbAby 0#16).row.mnemonic = .isb ∧ (Instr.sloIzx 0#8).row.mnemonic = .slo ∧
      (Instr.rlaZpx 0#8).row.mnemonic = .rla ∧ (Instr.sreAbs 0#16).row.mnemonic = .sre ∧
      (Instr.rraAbx 0#16).row.mnemonic = .rra := by decide

/-- GatedImmediatesComplete and GatedMemoryInstructionsComplete: the gate is open, an instruction of each kind. -/
theorem witness_GatedInstructionsComplete :
    gatedBase.params.admitTier3 = true ∧ (Instr.lasAby 0#16).row.mnemonic = .las ∧ (Instr.ahxIzy 0#8).row.mnemonic = .ahx ∧
      (Instr.shyAbx 0#16).row.mnemonic = .shy ∧ (Instr.shxAby 0#16).row.mnemonic = .shx ∧
      (Instr.tasAby 0#16).row.mnemonic = .tas ∧
      (operandsAt (.shxAby 0x02FF#16) { gatedBase with cpu := { base.cpu with y := 0x02#8 } }).pageCrossed = true := by decide

/-- GatedOpcodesFault: the gate is closed. -/
theorem witness_GatedOpcodesFault :
    (Instr.lxaImm 0#8).row.opcode ∈ [0x0B#8, 0x2B#8, 0x4B#8, 0x6B#8, 0x8B#8, 0xAB#8, 0xCB#8, 0x9F#8, 0x93#8, 0x9C#8, 0x9E#8, 0x9B#8,
      0xBB#8] ∧ base.params.admitTier3 = false := by decide

/-- HaltSlotsFault: the last halt slot. -/
theorem witness_HaltSlotsFault :
    (Instr.kilF2, (0xF2#8 : Byte)) ∈ [(Instr.kil02, 0x02#8), (.kil12, 0x12#8), (.kil22, 0x22#8), (.kil32, 0x32#8), (.kil42, 0x42#8),
      (.kil52, 0x52#8), (.kil62, 0x62#8), (.kil72, 0x72#8), (.kil92, 0x92#8), (.kilB2, 0xB2#8), (.kilD2, 0xD2#8),
      (.kilF2, 0xF2#8)] := by decide

/-- RegisterFrame, MemoryFrame, StallAccounting: an instruction that completes, a storing one, a DMA, and what is not written. -/
theorem witness_RegisterAndMemoryFrame :
    (∃ t, exec (.staAbs 0x4014#16) { base with cpu := { base.cpu with a := 0x50#8 } } = .next t) ∧
    writtenAddresses (.staAbs 0x4014#16) base = [0x4014#16] ∧ Mnemonic.sta ∉ writesA ∧ Flag.c ∉ flagsWritten .sta ∧
    Mnemonic.sta ∉ writesPc ∧ cpuDecode 0x4014#16 ≠ cpuDecode 0x0200#16 ∧ isStorage 0x0200#16 = true ∧
    writtenAddresses .txs base = [] ∧ 0x4014#16 ∉ writtenAddresses .txs base :=
  ⟨⟨_, rfl⟩, by decide, by decide, by decide, by decide, by decide, by decide, by decide, by decide⟩

/-- ResolverFollowsItsModes: pointer reads at the edge of the zero page and of a page. -/
theorem witness_ResolverFollowsItsModes :
    memRead 0x02FF#16 { base with ram := [(0x2FF, 0x34#8)] } = (0x34#8, { base with ram := [(0x2FF, 0x34#8)] }) ∧
    Word.ofBytes (Word.hi 0x02FF#16) (Word.lo 0x02FF#16 + 1#8) = 0x0200#16 ∧
    Word.ofBytes 0x00#8 ((0xFF#8 : Byte) + 0x00#8 + 1#8) = 0x0000#16 := ⟨rfl, by decide, by decide⟩

/-- BusReadsFollowTheMap, BusWritesFollowTheMap: an address at each edge of each range. -/
theorem witness_BusMap :
    ((0x1FFF#16 : Word).toNat ≤ 0x1FFF) ∧ (0x2000 ≤ (0x2000#16 : Word).toNat ∧ (0x3FFF#16 : Word).toNat ≤ 0x3FFF) ∧
    (0x4000 ≤ (0x4000#16 : Word).toNat ∧ (0x4015#16 : Word).toNat ≤ 0x4015 ∧ (0x4015#16 : Word) ≠ 0x4014#16) ∧
    (0x4018 ≤ (0x4018#16 : Word).toNat ∧ (0x7FFF#16 : Word).toNat ≤ 0x7FFF) ∧
    (0x8000 ≤ (0x8000#16 : Word).toNat ∧ Cartridge.blank.pages = .two ∧
      ({ Cartridge.blank with pages := .one } : Cartridge).pages = .one) ∧
    ((0x2000#16 : Word).toNat % 8, PpuPort.control) ∈ [(0, PpuPort.control), (7, .data)] ∧
    ((0x3FFF#16 : Word).toNat % 8, PpuPort.data) ∈ [(0, PpuPort.control), (7, .data)] ∧
    0xFFFF < 0x10000 ∧ Params.default.romWritePolicy = .ignore ∧
    ({ Params.default with romWritePolicy := .fault } : Params).romWritePolicy = .fault := by decide

/-- RamReadsBackThroughMirrors: the ends of the range, the same byte and another one. -/
theorem witness_RamReadsBackThroughMirrors :
    (0x1FFF#16 : Word).toNat ≤ 0x1FFF ∧ (0x07FF#16 : Word).toNat ≤ 0x1FFF ∧
    (0x07FF#16 : Word).toNat % 0x0800 = (0x1FFF#16 : Word).toNat % 0x0800 ∧
    (0x0000#16 : Word).toNat % 0x0800 ≠ (0x1FFF#16 : Word).toNat % 0x0800 ∧ ∃ t, memWrite 0x1FFF#16 0x5A#8 base = .ok t :=
  ⟨by decide, by decide, by decide, by decide, ⟨_, rfl⟩⟩

/-- ReadSideEffects: addresses beside the ports that have one. -/
theorem witness_ReadSideEffects :
    ¬(0x2000 ≤ (0x3FFD#16 : Word).toNat ∧ (0x3FFD#16 : Word).toNat ≤ 0x3FFF ∧
      ((0x3FFD#16 : Word).toNat % 8 = 2 ∨ (0x3FFD#16 : Word).toNat % 8 = 7)) ∧
    (0x3FFD#16 : Word) ≠ 0x4016#16 ∧ (0x3FFD#16 : Word) ≠ 0x4017#16 := by decide

/-- PpuBusFollowsTheMap: an address at each edge of each range, one address for a byte and another. -/
theorem witness_PpuBusFollowsTheMap :
    (0xDFFF#16 : Word).toNat % 0x4000 ≤ 0x1FFF ∧ 0x2000 ≤ (0x2000#16 : Word).toNat % 0x4000 ∧
    (0x3EFF#16 : Word).toNat % 0x4000 ≤ 0x3EFF ∧ 0x3F00 ≤ (0x3F00#16 : Word).toNat % 0x4000 ∧
    ppuDecode 0x3F10#16 = ppuDecode 0x3F00#16 ∧ ppuDecode 0x3EFF#16 ≠ ppuDecode 0x3F00#16 ∧
    ∃ t, ppuWrite base 0x3F10#16 0x2A#8 = .ok t :=
  ⟨by decide, by decide, by decide, by decide, by decide, by decide, ⟨_, rfl⟩⟩

/-- OamDmaCopiesAPage: the edges of the pages without side effects, and of those that read as zeros. -/
theorem witness_OamDmaCopiesAPage :
    (0x1F#8 : Byte).toNat ≤ 0x1F ∧ 0x41 ≤ (0x41#8 : Byte).toNat ∧ (0x7F#8 : Byte).toNat ≤ 0x7F ∧ 0x41 ≤ (0xFF#8 : Byte).toNat := by
  decide

/-- ControllersShiftOutTheButtons: the two writes to each port. -/
theorem witness_ControllersShiftOutTheButtons :
    (∃ t u, memWrite 0x4016#16 0x01#8 base = .ok t ∧ memWrite 0x4016#16 0x00#8 t = .ok u) ∧
    ∃ t u, memWrite 0x4017#16 0x01#8 base = .ok t ∧ memWrite 0x4017#16 0x00#8 t = .ok u :=
  ⟨⟨_, _, rfl, rfl⟩, ⟨_, _, rfl, rfl⟩⟩

/-- PpuPortsReadAndWrite: a port of the list, a status read and an OAM write. -/
theorem witness_PpuPortsReadAndWrite :
    PpuPort.scroll ∈ [PpuPort.control, .mask, .oamAddress, .scroll, .address] ∧ (∃ r t, ppuPortRead .status base = (r, t)) ∧
      ∃ t, ppuPortWrite .oamData 0x12#8 base = .ok t :=
  ⟨by decide, ⟨_, _, rfl⟩, ⟨_, rfl⟩⟩

/-- DataPortReadsAndWrites: `v` below, at the start of and above the palette, with the increment at its wrap. -/
theorem witness_DataPortReadsAndWrites :
    (BitVec.ofNat 16 ((0x3EFF#15 : VramAddr).toNat % 0x4000)).toNat < 0x3F00 ∧
    0x3F00 ≤ (BitVec.ofNat 16 ((0x7FFF#15 : VramAddr).toNat % 0x4000)).toNat ∧
    (0x0000#15 : VramAddr) = BitVec.ofNat 15 (((0x7FFF#15 : VramAddr).toNat + if base.ppu.ctrl.getLsbD 2 then 32 else 1) % 0x8000) ∧
    (∃ t, ppuWrite base 0x3F00#16 0x0F#8 = .ok t) ∧
    ∃ f, ppuWrite { base with params := { Params.default with romWritePolicy := .fault } } 0x1FFF#16 0#8 = .error f :=
  ⟨by decide, by decide, by decide, ⟨_, rfl⟩, ⟨_, rfl⟩⟩

/-- FramesHave89342Dots: the start of a frame, and of a frame after an odd one. -/
theorem witness_FramesHave89342Dots :
    (dotState 0 0 1).ppu.scanline = 0 ∧ (dotState 0 0 1).ppu.dot = 0 ∧ (dotState 0 1 2).ppu.dot = 1 ∧
      (dotState 0 1 2).ppu.frame % 2 = 0 := by decide

/-- A PPU at a position, with rendering on. -/
def rendersAt (line d : Nat) : State :=
  { base with ppu := { base.ppu with scanline := line, dot := d, mask := 0x18#8 } }

/-- DotFrame: rendering off under the gate, at a visible dot at either end of a line. -/
theorem witness_DotFrame :
    let s := dotState 239 256 0
    s.params.ppuGateOnMask = true ∧ s.ppu.mask.getLsbD 3 = false ∧ s.ppu.mask.getLsbD 4 = false ∧ s.ppu.scanline ≤ 239 ∧
      1 ≤ s.ppu.dot ∧ s.ppu.dot ≤ 256 := by decide

/-- ScrollUpdates and DotEventsAndOutput: the gate is open at a dot of each kind. -/
theorem witness_ScrollUpdates :
    gate (rendersAt 261 304) = true ∧ gate (rendersAt 239 256) = true ∧ gate (rendersAt 0 257) = true ∧
      (rendersAt 261 304).ppu.scanline = 261 ∧ (rendersAt 261 304).ppu.dot = 304 := by decide

/-- Whether the background pipeline fetches at a state's dot, as BackgroundPipeline says it. -/
abbrev fetchesAt (s : State) : Prop :=
  gate s = true ∧ (s.ppu.scanline ≤ 239 ∨ s.ppu.scanline = 261) ∧
    ((1 ≤ s.ppu.dot ∧ s.ppu.dot ≤ 256) ∨ (321 ≤ s.ppu.dot ∧ s.ppu.dot ≤ 336))

/-- BackgroundPipeline: both kinds of render line in a window; outside the windows, on lines that are not rendered, the gate closed. -/
theorem witness_BackgroundPipeline :
    fetchesAt (rendersAt 261 321) ∧ fetchesAt (rendersAt 239 256) ∧ 321 % 8 = 1 ∧ 256 % 8 = 0 ∧ ¬fetchesAt (rendersAt 0 337) ∧
      ¬fetchesAt (rendersAt 240 1) ∧ ¬fetchesAt (rendersAt 260 336) ∧ ¬fetchesAt (dotState 0 1 0) := by decide

/-- CompositorFollowsItsTable: each layer off and on, no sprite, a transparent one and an opaque one. -/
theorem witness_CompositorFollowsItsTable :
    base.ppu.mask.getLsbD 3 = false ∧ (rendersAt 0 1).ppu.mask.getLsbD 3 = true ∧ (12#4 : BitVec 4).toNat % 4 = 0 ∧
      (15#4 : BitVec 4).toNat % 4 ≠ 0 := by decide

/-- EvaluationSelectsTheFirstEight: there are sprites in range. -/
theorem witness_EvaluationSelectsTheFirstEight :
    (spritesInRange { base.ppu with oam := [(0, 0x30#8), (252, 0x30#8)] } 0x30)[0]? = some 0 := by decide

/-- SpriteFetchFillsEmptyPositions: an empty slot, and a sprite whose eighth column is the right edge. -/
theorem witness_SpriteFetchFillsEmptyPositions :
    let q : Ppu := { base.ppu with spriteCount := 1, secOam := [(0, 0x02#8), (1, 0x01#8), (2, 0x60#8), (3, 0xF8#8)] }
    q.spriteCount ≤ 1 ∧ 0 < q.spriteCount ∧ q.secOamByte 3 = 0xF8#8 ∧ (0xF8#8 : Byte).toNat ≤ 255 ∧
      255 < (0xF8#8 : Byte).toNat + 8 := by decide

/-- SpritePatternAddresses: both heights, rows at their ends, flipped and not. -/
theorem witness_SpritePatternAddresses :
    base.ppu.ctrl.getLsbD 5 = false ∧ (0x20#8 : Byte).getLsbD 5 = true ∧ 7 < 8 ∧ 15 < 16 ∧
      7 - 7 = (if (0x80#8 : Byte).getLsbD 7 then 7 - 7 else 7) := by decide

/-- SpriteWorkByDot: a dot of each clause while rendering. -/
theorem witness_SpriteWorkByDot :
    gate (rendersAt 0 1) = true ∧ gate (rendersAt 239 64) = true ∧ gate (rendersAt 239 65) = true ∧
      gate (rendersAt 239 256) = true ∧ gate (rendersAt 261 257) = true ∧ gate (rendersAt 0 264) = true ∧ 264 % 8 = 0 ∧
      320 % 8 = 0 := by decide

/-- StepKeepsTheInvariant, MachineCycleOrder: the reset state takes a step, a stall cycle. -/
theorem witness_StepKeepsTheInvariant :
    State.reset.Inv ∧ 0 < (takeInput State.reset).cpu.stall ∧ ∃ t, step State.reset = .next t :=
  ⟨by decide, by decide, ⟨_, rfl⟩⟩

/-- StepFaultsAreTheSpecs: a step that faults. -/
theorem witness_StepFaultsAreTheSpecs :
    ∃ f, step { base with cart := cartOf [0x02#8] } = .fault f := ⟨_, rfl⟩

/-- NmiEntryTakesTheVector: an interrupt pending with no stall. -/
theorem witness_NmiEntryTakesTheVector :
    let s : State := { base with nmiLine := true }
    (takeInput s).cpu.stall = 0 ∧ (takeInput s).nmiLine = true := by decide

/-- RtiReturnsFromAnInterrupt: an entry with the stack pointer at its edge. -/
theorem witness_RtiReturnsFromAnInterrupt :
    let s : State := { base with cpu := { base.cpu with sp := 0x01#8 } }
    s.cpu.reservedBits ∧ ∃ t, nmiEntry s = .ok t :=
  ⟨by decide, ⟨_, rfl⟩⟩

/-- ResetSequence: a reset event is the next input. -/
theorem witness_ResetSequence :
    resetComing.inputs = [{ buttons1 := 0x09#8, buttons2 := 0x80#8, reset := true }] ∧
      (takeInput resetComing).cpu.stall = 7 := by decide

/-- PowerUpBuildsTheMachine: an admitted image of the smallest length, one that is not admitted, and a header for the blank one. -/
theorem witness_PowerUpBuildsTheMachine :
    (∃ image : List Byte, (image.getD 4 0x00#8).toNat = 1 ∧ (image.getD 5 0x00#8).toNat = 1 ∧
      16 + 16384 * 1 + 8192 * 1 ≤ image.length) ∧
    ¬(((3 : Nat) = 1 ∨ (3 : Nat) = 2) ∧ (1 : Nat) = 1) ∧ (header 0x02#8 0x01#8).length = 16 ∧
    (header 0x02#8 0x01#8).getD 4 0x00#8 = 0x02#8 ∧ (header 0x02#8 0x01#8).getD 5 0x00#8 = 0x01#8 :=
  ⟨⟨header 0x01#8 0x01#8 ++ List.replicate 24576 0x00#8, rfl, rfl,
    by rw [List.length_append, List.length_replicate]; decide⟩,
    by decide, by decide, by decide, by decide⟩

/-- About to execute `STA $8000` under `ROM_WRITE_POLICY = fault`. -/
def storesToRom : State :=
  { base with cart := cartOf [0x8D#8, 0x00#8, 0x80#8], params := { Params.default with romWritePolicy := .fault } }

/-- TraceRecordsTheInstruction: an instruction that executes, one whose write faults, a stall cycle. -/
theorem witness_TraceRecordsTheInstruction :
    ldaNext.cpu.stall = 0 ∧ ldaNext.nmiLine = false ∧ (∃ t, step ldaNext = .next t) ∧
      (∃ f, step storesToRom = .fault f) ∧ 0 < (takeInput State.reset).cpu.stall :=
  ⟨by decide, by decide, ⟨_, rfl⟩, ⟨_, rfl⟩, by decide⟩

/-- R440: a store that raises `Fault(RomWrite)` retires no instruction; under the default policy it retires one. -/
theorem test_trace_of_retired_only :
    faultOf (step storesToRom) = some (.romWrite 0x8000#16) ∧ traceRecord storesToRom = none ∧
      (traceRecord { storesToRom with params := Params.default }).map (fun r => (r.pc0, r.opcode, r.bytes)) =
        some (0x8000#16, 0x8D#8, [0x00#8, 0x80#8]) := by decide

/-- The instruction of a table word is the first that runs after reset, with the word placed where the CPU fetches (log entry 3). -/
theorem test_with_fetch_word :
    (nextOf (step (State.reset.withFetchWord 16 0x05A9))).map (fun t => (t.cpu.a, t.cpu.pc, t.cpu.stall)) =
      some (0x05#8, 0x0002#16, 1) := by decide

end Sys2Proof.Tests
end

section
/-! PROOFS of the state family. The invariant holds at reset and every step keeps it; an instruction changes only the registers,
flags and PC that its rule lets it write. -/

namespace Sys2Proof.Machine

/-! ### The invariant -/

/-- A machine cycle keeps the invariant: the CPU's action does, then the three dots do (R430). -/
theorem machineCycle_inv {s t : State} (h : s.Inv) (hc : machineCycle s = .next t) : t.Inv := by
  unfold machineCycle at hc
  split at hc
  case h_1 u hu =>
    obtain rfl := Host.Outcome.next.inj hc
    exact finishCycle_inv (cpuAction_inv h hu)
  case h_2 => cases hc
  case h_3 => cases hc

/-- Settles O52: the host's input keeps the invariant, and so does the machine cycle after it. -/
theorem stepKeepsTheInvariant : Obligations.StepKeepsTheInvariant :=
  fun _ _ h hs => machineCycle_inv (takeInput_inv h) hs

/-- The PPU of the reset state: cleared counters and status, an empty line buffer and every memory at its fill (R450, R452). -/
theorem Ppu.reset_inv : Ppu.reset.Inv :=
  ⟨by decide, by decide, by decide, by decide,
    Memory.wf_nil _, Memory.wf_nil _, Memory.wf_nil _, Memory.wf_nil _, Store.wf_nil _ _⟩

/-- Settles O51: P is 0x24 (R453), the PPU and the controllers are cleared, and an empty memory is in canonical form. -/
theorem invariantAtReset : Obligations.InvariantAtReset :=
  ⟨by decide, Ppu.reset_inv, Memory.wf_nil _, ⟨Memory.wf_nil _, Memory.wf_nil _⟩, Nat.zero_le _, Nat.zero_le _⟩

/-! ### What executing an instruction keeps

A property of states that every bus access keeps, and that every register write of an instruction's rule keeps, is kept by the
execution of that instruction. The semantic routines are gone through once, for every such property. -/

/-- A property that bus accesses and stall cycles keep, and so does every register, flag and PC write that the rule of the mnemonic
`m` in the mode `mode` makes. -/
structure ClosedUnder (m : Mnemonic) (mode : Mode) (P : State → Prop) : Prop where
  read : ∀ {s : State} (addr : Word), P s → P (memRead addr s).2
  write : ∀ {s t : State} {addr : Word} {b : Byte}, P s → memWrite addr b s = .ok t → P t
  addStall : ∀ {s : State} {n : Nat}, P s → P (s.addStall n)
  setA : ∀ {s : State} {b : Byte}, P s → (hm : m ∈ writesA := by decide) → P (s.setA b)
  /-- The accumulator as the operand of a shift (R220). -/
  setShifted : ∀ {s : State} {b : Byte}, P s → m ∈ shifts → mode = .accumulator → P (s.setA b)
  setX : ∀ {s : State} {b : Byte}, P s → (hm : m ∈ writesX := by decide) → P (s.setX b)
  setY : ∀ {s : State} {b : Byte}, P s → (hm : m ∈ writesY := by decide) → P (s.setY b)
  setSp : ∀ {s : State} {b : Byte}, P s → (hm : m ∈ writesSp := by decide) → P (s.setSp b)
  setPc : ∀ {s : State} {w : Word}, P s → (hm : m ∈ writesPc := by decide) → P (s.setPc w)
  setFlag : ∀ {s : State} {f : Flag} {on : Bool}, P s → (hm : f ∈ flagsWritten m := by decide) → P (s.setFlag f on)
  /-- The whole status byte pulled from the stack (R233, R253). -/
  restore : ∀ {s : State} {b : Byte}, P s → (hm : m ∈ [Mnemonic.plp, .rti] := by decide) → P (s.setP (restoredStatus b))

/-- A routine, run on a row of mode `mode`, keeps a property of states. -/
def RoutineKeeps (mode : Mode) (P : State → Prop) (r : Routine) : Prop :=
  ∀ row ops s n t, row.mode = mode → P s → r row ops s = .ok (n, t) → P t

section
variable {m : Mnemonic} {mode : Mode} {P : State → Prop}

theorem ClosedUnder.setZN (h : ClosedUnder m mode P) {s : State} {r : Byte} (hs : P s)
    (hz : .z ∈ flagsWritten m := by decide) (hn : .n ∈ flagsWritten m := by decide) : P (s.setZN r) :=
  h.setFlag (h.setFlag hs hz) hn

theorem ClosedUnder.compare (h : ClosedUnder m mode P) {s : State} {r v : Byte} (hs : P s)
    (hc : .c ∈ flagsWritten m := by decide) (hz : .z ∈ flagsWritten m := by decide)
    (hn : .n ∈ flagsWritten m := by decide) : P (s.compare r v) :=
  h.setFlag (h.setFlag (h.setFlag hs hc) hz) hn

theorem ClosedUnder.addCore (h : ClosedUnder m mode P) {s : State} {v : Byte} (hs : P s) (ha : m ∈ writesA := by decide)
    (hc : .c ∈ flagsWritten m := by decide) (hv : .v ∈ flagsWritten m := by decide)
    (hz : .z ∈ flagsWritten m := by decide) (hn : .n ∈ flagsWritten m := by decide) : P (s.addCore v) :=
  h.setA (h.setZN (h.setFlag (h.setFlag hs hc) hv) hz hn) ha

theorem ClosedUnder.flagsBit (h : ClosedUnder .bit mode P) {s : State} {a v : Byte} (hs : P s) :
    P (s.setP (flagsBit s.cpu.p a v)) :=
  h.setFlag (h.setFlag (h.setFlag hs (f := .z)) (f := .v)) (f := .n)

/-! The stack and the vectors. -/

theorem push8_keeps (h : ClosedUnder m mode P) (hm : m ∈ writesSp) {b : Byte} {s t : State} (hs : P s)
    (hp : push8 b s = .ok t) : P t := by
  obtain ⟨u, hu, ht⟩ := bind_ok hp
  cases ht
  exact h.setSp (h.write hs hu) hm

theorem push16_keeps (h : ClosedUnder m mode P) (hm : m ∈ writesSp) {w : Word} {s t : State} (hs : P s)
    (hp : push16 w s = .ok t) : P t := by
  obtain ⟨u, hu, ht⟩ := bind_ok hp
  exact push8_keeps h hm (push8_keeps h hm hs hu) ht

theorem pull8_keeps (h : ClosedUnder m mode P) (hm : m ∈ writesSp) {s : State} (hs : P s) : P (pull8 s).2 :=
  h.read _ (h.setSp hs hm)

theorem pull16_keeps (h : ClosedUnder m mode P) (hm : m ∈ writesSp) {s : State} (hs : P s) : P (pull16 s).2 :=
  pull8_keeps h hm (pull8_keeps h hm hs)

theorem takeInterrupt_keeps (h : ClosedUnder .brk mode P) {r vector : Word} {b : Byte} {s t : State} (hs : P s)
    (ht : takeInterrupt r b vector s = .ok t) : P t := by
  obtain ⟨u, hu, ht⟩ := bind_ok ht
  obtain ⟨v, hv, ht⟩ := bind_ok ht
  cases ht
  have hpushed : P v := push8_keeps h (by decide) (push16_keeps h (by decide) hs hu) hv
  exact h.setPc (h.read _ (h.read _ (h.setFlag hpushed)))

theorem returnFromInterrupt_keeps (h : ClosedUnder .rti mode P) {s : State} (hs : P s) : P (returnFromInterrupt s) :=
  h.setPc (pull16_keeps h (by decide) (h.restore (pull8_keeps h (by decide) hs)))

/-! The shapes of the semantic routines. -/

theorem reading_keeps (h : ClosedUnder m mode P) {f : Byte → State → State} (hf : ∀ b s, P s → P (f b s)) :
    RoutineKeeps mode P (reading f) := by
  intro row ops s n t _ hs hr
  obtain ⟨p, hp, ht⟩ := bind_ok hr
  cases ht
  unfold readOperand at hp
  split at hp <;> cases hp
  · exact hf _ s hs
  · exact hf _ _ (h.read _ hs)

theorem immediateOnly_keeps {f : Byte → State → State} (hf : ∀ b s, P s → P (f b s)) :
    RoutineKeeps mode P (immediateOnly f) := by
  intro row ops s n t _ hs hr
  obtain ⟨b, _, ht⟩ := bind_ok hr
  cases ht
  exact hf b s hs

theorem registers_keeps {f : State → State} (hf : ∀ s, P s → P (f s)) : RoutineKeeps mode P (registers f) := by
  intro row ops s n t _ hs hr
  cases hr
  exact hf s hs

theorem pushing_keeps {f : State → Except Fault State} (hf : ∀ s t, P s → f s = .ok t → P t) :
    RoutineKeeps mode P (pushing f) := by
  intro row ops s n t _ hs hr
  obtain ⟨u, hu, ht⟩ := bind_ok hr
  cases ht
  exact hf s _ hs hu

theorem storing_keeps (h : ClosedUnder m mode P) (v : State → Byte) : RoutineKeeps mode P (storing v) := by
  intro row ops s n t _ hs hr
  obtain ⟨ea, _, hr⟩ := bind_ok hr
  obtain ⟨u, hu, ht⟩ := bind_ok hr
  cases ht
  exact h.write hs hu

theorem storeHi_keeps (h : ClosedUnder m mode P) (reg idx : Byte) : RoutineKeeps mode P (storeHi reg idx) := by
  intro row ops s n t _ hs hr
  obtain ⟨ea, _, hr⟩ := bind_ok hr
  obtain ⟨u, hu, ht⟩ := bind_ok hr
  cases ht
  exact h.write hs hu

theorem modifying_keeps (h : ClosedUnder m mode P) {f : Byte → State → Byte × State} {g : Byte → State → State}
    (hf : ∀ b s, P s → P (f b s).2) (hg : ∀ b s, P s → P (g b s)) : RoutineKeeps mode P (modifying f g) := by
  intro row ops s n t _ hs hr
  obtain ⟨ea, _, hr⟩ := bind_ok hr
  obtain ⟨u, hu, ht⟩ := bind_ok hr
  cases ht
  exact hg _ _ (h.write (hf _ _ (h.read ea hs)) hu)

/-- The flags that a shift or rotate writes (R220). -/
theorem flagsWritten_of_shifts : ∀ m ∈ shifts, .z ∈ flagsWritten m ∧ .n ∈ flagsWritten m := by decide

/-- In Accumulator mode a shift writes A; in every other mode it modifies memory (R220). -/
theorem shifting_keeps (h : ClosedUnder m mode P) (hm : m ∈ shifts) {f : Byte → State → Byte × State}
    (hf : ∀ b s, P s → P (f b s).2) : RoutineKeeps mode P (shifting f) := by
  intro row ops s n t hmode hs hr
  obtain ⟨hz, hn⟩ := flagsWritten_of_shifts m hm
  unfold shifting at hr
  split at hr
  case h_1 hacc =>
    cases hr
    exact h.setZN (h.setShifted (hf _ _ hs) hm (hmode.symm.trans hacc)) hz hn
  all_goals exact modifying_keeps h hf (fun _ _ hs => h.setZN hs hz hn) row ops s n t hmode hs hr

theorem branching_keeps (h : ClosedUnder m mode P) (hm : m ∈ writesPc) (f : Flag) (wanted : Bool) :
    RoutineKeeps mode P (branching f wanted) := by
  intro row ops s n t _ hs hr
  obtain ⟨ea, _, hr⟩ := bind_ok hr
  split at hr <;> cases hr
  · exact h.setPc hs hm
  · exact hs

theorem jmpRoutine_keeps (h : ClosedUnder .jmp mode P) : RoutineKeeps mode P jmpRoutine := by
  intro row ops s n t _ hs hr
  obtain ⟨ea, _, ht⟩ := bind_ok hr
  cases ht
  exact h.setPc hs

theorem jsrRoutine_keeps (h : ClosedUnder .jsr mode P) : RoutineKeeps mode P jsrRoutine := by
  intro row ops s n t _ hs hr
  obtain ⟨ea, _, hr⟩ := bind_ok hr
  obtain ⟨u, hu, ht⟩ := bind_ok hr
  cases ht
  exact h.setPc (push16_keeps h (by decide) hs hu)

/-- The semantic routine of a mnemonic makes bus accesses and the register writes of its rule, and nothing else. -/
theorem routineOf_keeps (h : ClosedUnder m mode P) : RoutineKeeps mode P (routineOf m) := by
  cases m <;>
    simp only [routineOf, ldaRoutine, ldxRoutine, ldyRoutine, laxRoutine, lasRoutine, andRoutine, oraRoutine, eorRoutine,
      adcRoutine, sbcRoutine, cmpRoutine, cpxRoutine, cpyRoutine, bitRoutine, staRoutine, stxRoutine, styRoutine, saxRoutine,
      taxRoutine, tsxRoutine, inxRoutine, dexRoutine, tayRoutine, inyRoutine, deyRoutine, txaRoutine, tyaRoutine, txsRoutine,
      clcRoutine, cldRoutine, cliRoutine, clvRoutine, secRoutine, sedRoutine, seiRoutine, nopRoutine, incRoutine, decRoutine,
      dcpRoutine, isbRoutine, sloRoutine, rlaRoutine, sreRoutine, rraRoutine, aslRoutine, lsrRoutine, rolRoutine, rorRoutine,
      rtsRoutine, rtiRoutine, brkRoutine, bccRoutine, bcsRoutine, beqRoutine, bmiRoutine, bneRoutine, bplRoutine, bvcRoutine,
      bvsRoutine, phaRoutine, phpRoutine, plaRoutine, plpRoutine, ancRoutine, alrRoutine, arrRoutine, axsRoutine, xaaRoutine,
      lxaRoutine]
  case lda => exact reading_keeps h fun _ _ hs => h.setZN (h.setA hs)
  case ldx => exact reading_keeps h fun _ _ hs => h.setZN (h.setX hs)
  case ldy => exact reading_keeps h fun _ _ hs => h.setZN (h.setY hs)
  case lax => exact reading_keeps h fun _ _ hs => h.setZN (h.setX (h.setA hs))
  case las => exact reading_keeps h fun _ _ hs => h.setZN (h.setSp (h.setX (h.setA hs)))
  case and | ora | eor => exact reading_keeps h fun _ _ hs => h.setZN (h.setA hs)
  case adc | sbc => exact reading_keeps h fun _ _ hs => h.addCore hs
  case cmp | cpx | cpy => exact reading_keeps h fun _ _ hs => h.compare hs
  case bit => exact reading_keeps h fun _ _ hs => h.flagsBit hs
  case sta | stx | sty | sax => exact storing_keeps h _
  case tax | tsx | inx | dex => exact registers_keeps fun _ hs => h.setZN (h.setX hs)
  case tay | iny | dey => exact registers_keeps fun _ hs => h.setZN (h.setY hs)
  case txa | tya => exact registers_keeps fun _ hs => h.setZN (h.setA hs)
  case txs => exact registers_keeps fun _ hs => h.setSp hs
  case clc | cld | cli | clv | sec | sed | sei => exact registers_keeps fun _ hs => h.setFlag hs
  case nop | kil => exact registers_keeps fun _ hs => hs
  case inc | dec => exact modifying_keeps h (fun _ _ hs => hs) fun _ _ hs => h.setZN hs
  case dcp => exact modifying_keeps h (fun _ _ hs => hs) fun _ _ hs => h.compare hs
  case isb => exact modifying_keeps h (fun _ _ hs => hs) fun _ _ hs => h.addCore hs
  case slo | rla | sre => exact modifying_keeps h (fun _ _ hs => h.setFlag hs) fun _ _ hs => h.setZN (h.setA hs)
  case rra => exact modifying_keeps h (fun _ _ hs => h.setFlag hs) fun _ _ hs => h.addCore hs
  case asl | lsr | rol | ror => exact shifting_keeps h (by decide) fun _ _ hs => h.setFlag hs
  case jmp => exact jmpRoutine_keeps h
  case jsr => exact jsrRoutine_keeps h
  case rts => exact registers_keeps fun _ hs => h.setPc (pull16_keeps h (by decide) hs)
  case rti => exact registers_keeps fun _ hs => returnFromInterrupt_keeps h hs
  case brk => exact pushing_keeps fun _ _ hs => takeInterrupt_keeps h hs
  case bcc | bcs | beq | bmi | bne | bpl | bvc | bvs => exact branching_keeps h (by decide) _ _
  case pha | php => exact pushing_keeps fun _ _ hs => push8_keeps h (by decide) hs
  case pla => exact registers_keeps fun _ hs => h.setZN (h.setA (pull8_keeps h (by decide) hs))
  case plp => exact registers_keeps fun _ hs => h.restore (pull8_keeps h (by decide) hs)
  case anc => exact immediateOnly_keeps fun _ _ hs => h.setFlag (h.setZN (h.setA hs))
  case alr => exact immediateOnly_keeps fun _ _ hs => h.setZN (h.setA (h.setFlag hs))
  case arr => exact immediateOnly_keeps fun _ _ hs => h.setFlag (h.setFlag (h.setZN (h.setA hs)))
  case axs => exact immediateOnly_keeps fun _ _ hs => h.setZN (h.setX (h.setFlag hs))
  case xaa => exact immediateOnly_keeps fun _ _ hs => h.setZN (h.setA hs)
  case lxa => exact immediateOnly_keeps fun _ _ hs => h.setZN (h.setX (h.setA hs))
  case ahx | shy | shx => exact fun row ops s n t => storeHi_keeps h _ _ row ops s n t
  case tas => exact fun row ops s n t hmode hs => storeHi_keeps h _ _ row ops _ n t hmode (h.setSp hs)

theorem resolve_keeps (h : ClosedUnder m mode P) (o : Operand) {s : State} (hs : P s) : P (resolve o s).2 := by
  cases o with
  | indirect | indexedIndirect | indirectIndexed => exact h.read _ (h.read _ hs)
  | none | implied | accumulator | immediate | zeroPage | zeroPageX | zeroPageY | relative | absolute | absoluteX | absoluteY =>
    exact hs

/-- Executing an instruction keeps a property that its bus accesses and register writes keep, once its bytes are passed. -/
theorem exec_keeps {i : Instr} {s t : State} (h : ClosedUnder i.row.mnemonic i.row.mode P)
    (hs : P (s.setPc (nextPc i s))) (he : exec i s = .next t) : P t := by
  rw [exec_eq_execute] at he
  cases hrow : rowExecutes i.row s.params with
  | false => rw [execute_gated i _ s hrow] at he; cases he
  | true =>
    rw [execute_eq i _ s hrow] at he
    split at he <;> cases he
    case h_2 hr => exact h.addStall (routineOf_keeps h _ _ _ _ _ rfl (resolve_keeps h _ hs) hr)

end

/-! ### The register frame -/

/-- The registers of `d` are those of `c` but for the ones that the rule of the mnemonic `m` in the mode `mode` writes (R166, R182). -/
structure RegistersFramed (m : Mnemonic) (mode : Mode) (c d : Cpu) : Prop where
  a : m ∉ writesA → ¬(m ∈ shifts ∧ mode = .accumulator) → d.a = c.a
  x : m ∉ writesX → d.x = c.x
  y : m ∉ writesY → d.y = c.y
  sp : m ∉ writesSp → d.sp = c.sp
  flag : ∀ f, f ∉ flagsWritten m → getFlag d.p f = getFlag c.p f
  pc : m ∉ writesPc → d.pc = c.pc
  cyc : d.cyc = c.cyc

theorem RegistersFramed.refl (m : Mnemonic) (mode : Mode) (c : Cpu) : RegistersFramed m mode c c :=
  ⟨fun _ _ => rfl, fun _ => rfl, fun _ => rfl, fun _ => rfl, fun _ _ => rfl, fun _ => rfl, rfl⟩

theorem RegistersFramed.withStall {m : Mnemonic} {mode : Mode} {c d : Cpu} (h : RegistersFramed m mode c d) (n : Nat) :
    RegistersFramed m mode c { d with stall := n } := { h with }

/-- `PLP` and `RTI` write every flag (R233, R253). -/
theorem mem_flagsWritten_of_restores (f : Flag) : ∀ m ∈ [Mnemonic.plp, .rti], f ∈ flagsWritten m := by
  cases f <;> decide

/-- A bus access changes no register, and a write that the rule makes is outside the frame. -/
theorem registersFramed_closed (m : Mnemonic) (mode : Mode) (c : Cpu) :
    ClosedUnder m mode fun s => RegistersFramed m mode c s.cpu where
  read addr hs := by rwa [memRead_cpu]
  write hs hw := by
    rw [(memWrite_frame hw).1]
    exact hs.withStall _
  addStall hs := hs.withStall _
  setA hs hm := { hs with a := fun hn => absurd hm hn }
  setShifted hs hm hmode := { hs with a := fun _ hn => absurd ⟨hm, hmode⟩ hn }
  setX hs hm := { hs with x := fun hn => absurd hm hn }
  setY hs hm := { hs with y := fun hn => absurd hm hn }
  setSp hs hm := { hs with sp := fun hn => absurd hm hn }
  setPc hs hm := { hs with pc := fun hn => absurd hm hn }
  setFlag {s f on} hs hm := { hs with
    flag := fun g hg => by
      have hne : g ≠ f := fun e => hg (e ▸ hm)
      simpa [hne] using hs.flag g hg }
  restore hs hm := { hs with flag := fun f hf => absurd (mem_flagsWritten_of_restores f _ hm) hf }

/-- Settles O27: the frame holds when the instruction's bytes are passed, and its bus accesses and register writes keep it. -/
theorem registerFrame : Obligations.RegisterFrame := by
  intro i s t he
  obtain ⟨ha, hx, hy, hsp, hflag, hpc, hcyc⟩ :=
    exec_keeps (registersFramed_closed i.row.mnemonic i.row.mode (s.setPc (nextPc i s)).cpu) (.refl _ _ _) he
  exact ⟨ha, hx, hy, hsp, hflag, hpc, hcyc⟩

end Sys2Proof.Machine
end

section
/-! PROOFS of the memory family. The two buses follow their maps, a read has the side effects of its port and no others, and power-up
builds the machine of its image. -/

namespace Sys2Proof.Machine

/-! ### The map of the CPU bus: which addresses select a target (R60)

`cpuDecode` is a chain of comparisons; each lemma reads one of its branches off, in both directions. -/

theorem cpuDecode_eq_ppuPort_iff {addr : Word} {p : PpuPort} :
    cpuDecode addr = .ppuPort p ↔ 0x2000 ≤ addr.toNat ∧ addr.toNat ≤ 0x3FFF ∧ ppuPortOf addr.toNat = p := by
  unfold cpuDecode
  grind

theorem cpuDecode_eq_oamDma_iff {addr : Word} : cpuDecode addr = .oamDma ↔ addr = 0x4014#16 := by
  rw [← BitVec.toNat_inj]
  unfold cpuDecode
  grind

theorem cpuDecode_eq_audio_iff {addr : Word} :
    cpuDecode addr = .audio ↔ 0x4000 ≤ addr.toNat ∧ addr.toNat ≤ 0x4015 ∧ addr ≠ 0x4014#16 := by
  rw [Ne, ← BitVec.toNat_inj]
  unfold cpuDecode
  grind

theorem cpuDecode_eq_pad1_iff {addr : Word} : cpuDecode addr = .pad1 ↔ addr = 0x4016#16 := by
  rw [← BitVec.toNat_inj]
  unfold cpuDecode
  grind

theorem cpuDecode_eq_pad2_iff {addr : Word} : cpuDecode addr = .pad2 ↔ addr = 0x4017#16 := by
  rw [← BitVec.toNat_inj]
  unfold cpuDecode
  grind

theorem cpuDecode_eq_expansion_iff {addr : Word} :
    cpuDecode addr = .expansion ↔ 0x4018 ≤ addr.toNat ∧ addr.toNat ≤ 0x7FFF := by
  unfold cpuDecode
  grind

theorem cpuDecode_eq_prg_iff {addr : Word} {k : Nat} :
    cpuDecode addr = .prg k ↔ 0x8000 ≤ addr.toNat ∧ addr.toNat - 0x8000 = k := by
  unfold cpuDecode
  grind

/-- The ports by number (R370): both sides depend on the low three bits alone. -/
theorem ppuPortOf_eq_iff {a : Nat} {p : PpuPort} :
    ppuPortOf a = p ↔ (a % 8, p) ∈ [(0, PpuPort.control), (1, .mask), (2, .status), (3, .oamAddress), (4, .oamData),
      (5, .scroll), (6, .address), (7, .data)] := by
  have h : a % 8 < 8 := Nat.mod_lt _ (by decide)
  unfold ppuPortOf
  interval_cases a % 8 <;> cases p <;> decide

/-! ### Accesses of the CPU bus -/

/-- Settles O31: each range of the map decodes to its own target (R60, R61); a 32 KiB program ROM is longer than any offset. -/
theorem busReadsFollowTheMap : Obligations.BusReadsFollowTheMap := by
  refine ⟨fun addr s => ⟨fun h => ?ram, fun port h h' hp => ?port, fun h h' => ?audio, fun h => ?pad1, fun h => ?pad2,
    fun h h' => ?expansion, fun h hone => ?one, fun h htwo => ?two⟩, fun addr b s h => ?wide⟩
  case ram => exact memRead_of_ram (cpuDecode_of_ram h) s
  case port => rw [memRead, cpuDecode_eq_ppuPort_iff.2 ⟨h, h', ppuPortOf_eq_iff.2 hp⟩]
  case audio =>
    by_cases hdma : addr = 0x4014#16
    · rw [memRead, cpuDecode_eq_oamDma_iff.2 hdma]
    · rw [memRead, cpuDecode_eq_audio_iff.2 ⟨h, h', hdma⟩]
  case pad1 => rw [memRead, cpuDecode_eq_pad1_iff.2 h]
  case pad2 => rw [memRead, cpuDecode_eq_pad2_iff.2 h]
  case expansion => rw [memRead, cpuDecode_eq_expansion_iff.2 ⟨h, h'⟩]
  case one => rw [memRead_of_prg (cpuDecode_eq_prg_iff.2 ⟨h, rfl⟩), Cartridge.prgByte, hone]; rfl
  case two =>
    have hlt : addr.toNat - 0x8000 < PrgPages.bytes .two := Nat.sub_lt_right_of_lt_add h addr.isLt
    rw [memRead_of_prg (cpuDecode_eq_prg_iff.2 ⟨h, rfl⟩), Cartridge.prgByte, htwo, Nat.mod_eq_of_lt hlt]
    rfl
  case wide => exact ⟨if_pos h, if_pos h⟩

/-- Settles O32: each range of the map decodes to its own target (R60, R62), and a ROM write follows its policy (R414). -/
theorem busWritesFollowTheMap : Obligations.BusWritesFollowTheMap := by
  refine fun addr b s => ⟨fun h => ?ram, fun port h h' hp => ?port, fun h => ?dma, fun h h' hdma => ?audio, fun h => ?pad1,
    fun h => ?pad2, fun h h' => ?expansion, fun h hpolicy => ?fault, fun h hpolicy => ?ignore⟩
  case ram => exact memWrite_of_ram (cpuDecode_of_ram h) b s
  case port => rw [memWrite, cpuDecode_eq_ppuPort_iff.2 ⟨h, h', ppuPortOf_eq_iff.2 hp⟩]
  case dma => rw [memWrite, cpuDecode_eq_oamDma_iff.2 h]
  case audio => rw [memWrite, cpuDecode_eq_audio_iff.2 ⟨h, h', hdma⟩]
  case pad1 => rw [memWrite, cpuDecode_eq_pad1_iff.2 h]
  case pad2 => rw [memWrite, cpuDecode_eq_pad2_iff.2 h]
  case expansion => rw [memWrite, cpuDecode_eq_expansion_iff.2 ⟨h, h'⟩]
  case fault => rw [memWrite, cpuDecode_eq_prg_iff.2 ⟨h, rfl⟩]; simp only [hpolicy]
  case ignore => rw [memWrite, cpuDecode_eq_prg_iff.2 ⟨h, rfl⟩]; simp only [hpolicy]

/-- Settles O33: both addresses select the byte of work RAM at their low eleven bits (R63). -/
theorem ramReadsBackThroughMirrors : Obligations.RamReadsBackThroughMirrors := by
  intro addr other b s t haddr hother hw
  rw [memWrite_of_ram (cpuDecode_of_ram haddr)] at hw
  obtain rfl := Except.ok.inj hw
  rw [memRead_of_ram (cpuDecode_of_ram hother), memRead_of_ram (cpuDecode_of_ram hother), Memory.read_write]

/-! ### The side effects of a read -/

/-- The strobes and the buttons of both controllers are the same in two states: at most the shift indexes differ. -/
structure OnlyShiftsMove (s t : State) : Prop where
  pad1 : t.pad1 = { s.pad1 with shift := t.pad1.shift }
  pad2 : t.pad2 = { s.pad2 with shift := t.pad2.shift }

theorem OnlyShiftsMove.refl (s : State) : OnlyShiftsMove s s := ⟨rfl, rfl⟩

theorem OnlyShiftsMove.trans {s t u : State} (h : OnlyShiftsMove s t) (k : OnlyShiftsMove t u) : OnlyShiftsMove s u :=
  ⟨by rw [k.pad1, h.pad1], by rw [k.pad2, h.pad2]⟩

theorem Controller.afterRead_eq (c : Controller) : c.afterRead = { c with shift := c.afterRead.shift } := by
  unfold Controller.afterRead
  split
  · rfl
  · split <;> rfl

theorem ppuPortRead_onlyShiftsMove (p : PpuPort) (s : State) : OnlyShiftsMove s (ppuPortRead p s).2 := by
  cases p with
  | data =>
    simp only [ppuPortRead, dataRead]
    split <;> exact ⟨rfl, rfl⟩
  | control | mask | status | oamAddress | oamData | scroll | address => exact ⟨rfl, rfl⟩

theorem memRead_onlyShiftsMove (addr : Word) (s : State) : OnlyShiftsMove s (memRead addr s).2 := by
  unfold memRead
  split
  case h_2 p _ => exact ppuPortRead_onlyShiftsMove p s
  case h_5 => exact ⟨s.pad1.afterRead_eq, rfl⟩
  case h_6 => exact ⟨rfl, s.pad2.afterRead_eq⟩
  all_goals exact .refl s

/-- A port other than the status and the data port is read without a side effect (R83). -/
theorem ppuPortRead_pure {p : PpuPort} (hstatus : p ≠ .status) (hdata : p ≠ .data) (s : State) : (ppuPortRead p s).2 = s := by
  cases p with
  | status => exact absurd rfl hstatus
  | data => exact absurd rfl hdata
  | control | mask | oamAddress | oamData | scroll | address => rfl

/-- Settles O34: of the targets of the map only two PPU ports and the controllers change on a read (R83), a controller in its shift
index alone. -/
theorem readSideEffects : Obligations.ReadSideEffects := by
  refine fun addr s => ⟨fun hport hpad1 hpad2 => ?_, ?_⟩
  · unfold memRead
    split
    case h_2 p hp =>
      obtain ⟨hlo, hhi, rfl⟩ := cpuDecode_eq_ppuPort_iff.1 hp
      refine ppuPortRead_pure (fun h => hport ⟨hlo, hhi, .inl ?_⟩) (fun h => hport ⟨hlo, hhi, .inr ?_⟩) s
      · simpa using ppuPortOf_eq_iff.1 h
      · simpa using ppuPortOf_eq_iff.1 h
    case h_5 h => exact absurd (cpuDecode_eq_pad1_iff.1 h) hpad1
    case h_6 h => exact absurd (cpuDecode_eq_pad2_iff.1 h) hpad2
    all_goals rfl
  · rintro t rfl
    obtain ⟨h1, h2⟩ := memRead_onlyShiftsMove addr s
    rw [← h1, ← h2]
    exact memRead_frame addr s

/-! ### The PPU bus -/

theorem ppuDecode_eq_chr {addr : Word} (h : addr.toNat % 0x4000 ≤ 0x1FFF) : ppuDecode addr = .chr (addr.toNat % 0x4000) := by
  simp only [ppuDecode, if_pos h]

/-- The whole nametable range folds to 2 KiB, its upper mirror at 0x3000 included (R77). -/
theorem ppuDecode_eq_vram {addr : Word} (h : 0x2000 ≤ addr.toNat % 0x4000) (h' : addr.toNat % 0x4000 ≤ 0x3EFF) :
    ppuDecode addr = .vram (addr.toNat % 0x0800) := by
  unfold ppuDecode ntIndex
  grind

theorem ppuDecode_eq_palette {addr : Word} (h : 0x3F00 ≤ addr.toNat % 0x4000) :
    ppuDecode addr = .palette
      (if addr.toNat % 0x20 ∈ [0x10, 0x14, 0x18, 0x1C] then addr.toNat % 0x20 - 0x10 else addr.toNat % 0x20) := by
  have hmod : addr.toNat % 0x4000 % 0x20 = addr.toNat % 0x20 := Nat.mod_mod_of_dvd _ (by decide)
  simp only [ppuDecode, palIndex, hmod]
  grind

theorem ppuDecode_ne_chr {addr : Word} (h : 0x2000 ≤ addr.toNat % 0x4000) (k : Nat) : ppuDecode addr ≠ .chr k := by
  unfold ppuDecode
  grind

/-- A write outside character ROM succeeds, and each address of the bus then reads the byte if it selects the same one (R76). -/
theorem ppuWrite_of_not_chr {addr : Word} (h : ∀ k, ppuDecode addr ≠ .chr k) (b : Byte) (s : State) :
    ∃ t, ppuWrite s addr b = .ok t ∧
      ∀ other, ppuRead t other = if ppuDecode other = ppuDecode addr then b else ppuRead s other := by
  unfold ppuWrite ppuRead
  cases hd : ppuDecode addr with
  | chr k => exact absurd hd (h k)
  | vram k => exact ⟨_, rfl, fun other => by cases ppuDecode other <;> simp⟩
  | palette k => exact ⟨_, rfl, fun other => by cases ppuDecode other <;> simp⟩

/-- Settles O35: the three ranges of the map decode to character ROM, nametable RAM and palette RAM (R75, R77, R78). -/
theorem ppuBusFollowsTheMap : Obligations.PpuBusFollowsTheMap := by
  refine ⟨fun addr s => ⟨fun h => ?chr, fun h h' => ?vram, fun h => ?palette⟩, fun addr other b s t h hw => ?readback,
    fun addr b s => ⟨fun h => ?succeeds, fun h => ?rom⟩⟩
  case chr => rw [ppuRead, ppuDecode_eq_chr h]; rfl
  case vram => rw [ppuRead, ppuDecode_eq_vram h h']
  case palette => rw [ppuRead, ppuDecode_eq_palette h]
  case readback =>
    obtain ⟨u, hu, hread⟩ := ppuWrite_of_not_chr (ppuDecode_ne_chr h) b s
    obtain rfl := Except.ok.inj (hu.symm.trans hw)
    exact hread other
  case succeeds =>
    obtain ⟨u, hu, -⟩ := ppuWrite_of_not_chr (ppuDecode_ne_chr h) b s
    exact ⟨u, hu⟩
  case rom =>
    rw [ppuWrite, ppuDecode_eq_chr h]
    cases s.params.romWritePolicy <;> rfl

/-! ### Power-up -/

theorem imageWellFormed_iff (image : List Byte) :
    imageWellFormed image = true ↔ (imagePrgPages image = 1 ∨ imagePrgPages image = 2) ∧ imageChrPages image = 1 ∧
      headerBytes + 16384 * imagePrgPages image + 8192 * imageChrPages image ≤ image.length := by
  simp only [imageWellFormed, imageAdmitted, Bool.and_eq_true, Bool.or_eq_true, beq_iff_eq, decide_eq_true_eq, and_assoc]

/-- The byte of a slice of a list. -/
theorem getD_take_drop {l : List Byte} {start n i : Nat} (hi : i < n) (d : Byte) :
    ((l.drop start).take n).getD i d = l.getD (start + i) d := by
  simp [List.getD_eq_getElem?_getD, hi]

theorem cartridgeOf_space {image : List Byte} (h : imageWellFormed image = true) :
    (cartridgeOf image).pages.space.size = 16384 * imagePrgPages image := by
  obtain ⟨hone | htwo, -, -⟩ := (imageWellFormed_iff image).1 h
  · simp [cartridgeOf, hone, PrgPages.space, Space.size]
  · simp [cartridgeOf, htwo, PrgPages.space, Space.size]

theorem PrgPages.space_fill (p : PrgPages) : p.space.fill = 0x00#8 := by cases p <;> rfl

/-- The program ROM of an admitted image repeats the image's program slice (R61, R85). -/
theorem cartridgeOf_prgByte {image : List Byte} (h : imageWellFormed image = true) (i : Nat) :
    (cartridgeOf image).prgByte i = image.getD (16 + i % (16384 * imagePrgPages image)) 0x00#8 := by
  have hpos : 0 < 16384 * imagePrgPages image := by
    obtain ⟨hone | htwo, -, -⟩ := (imageWellFormed_iff image).1 h <;> omega
  rw [Cartridge.prgByte, PrgPages.bytes, cartridgeOf_space h]
  unfold cartridgeOf
  rw [Memory.read_ofBytes, if_pos (Nat.zero_le _), PrgPages.space_fill]
  exact getD_take_drop (Nat.mod_lt _ hpos) _

/-- The character ROM of an admitted image is the image's character slice (R85). -/
theorem cartridgeOf_chrByte {image : List Byte} (h : imageWellFormed image = true) {i : Nat} (hi : i < 8192) :
    (cartridgeOf image).chrByte i = image.getD (16 + 16384 * imagePrgPages image + i) 0x00#8 := by
  obtain ⟨-, hchr, -⟩ := (imageWellFormed_iff image).1 h
  rw [Cartridge.chrByte]
  unfold cartridgeOf
  rw [Memory.read_ofBytes, if_pos (Nat.zero_le _)]
  exact getD_take_drop (by rw [hchr]; exact hi) _

/-- The reset after the power-up assignments leaves the boot registers and the PC of the reset vector; the PPU is cleared already
(R450, R452, R453). -/
theorem resetSequence_poweredUp (params : Params) (cart : Cartridge) :
    resetSequence (poweredUp params cart) = { poweredUp params cart with
      cpu := { Cpu.reset with pc := Word.ofBytes (cart.prgByte 0x7FFD) (cart.prgByte 0x7FFC) } } := by
  obtain ⟨-, -, hlo, hhi, -⟩ := cpuDecode_vectors
  have hp : setFlag 0x24#8 .i true = 0x24#8 := rfl
  simp only [resetSequence, read16_of_prg hlo hhi, State.setFlag, State.setP, State.setSp, poweredUp, hp]
  rfl

theorem powerUp_of_admitted {image : List Byte} (h : imageWellFormed image = true) (params : Params) :
    powerUp params image = .next { poweredUp params (cartridgeOf image) with
      cpu := { Cpu.reset with
        pc := Word.ofBytes ((cartridgeOf image).prgByte 0x7FFD) ((cartridgeOf image).prgByte 0x7FFC) } } := by
  rw [powerUp, if_pos h, resetSequence_poweredUp]

/-- The reset vector is at the end of the program slice, whatever its length (R67). -/
theorem cartridgeOf_resetVector {image : List Byte} (h : imageWellFormed image = true) :
    (cartridgeOf image).prgByte 0x7FFD = image.getD (16 + 16384 * imagePrgPages image - 3) 0x00#8 ∧
      (cartridgeOf image).prgByte 0x7FFC = image.getD (16 + 16384 * imagePrgPages image - 4) 0x00#8 := by
  rw [cartridgeOf_prgByte h, cartridgeOf_prgByte h]
  obtain ⟨hone | htwo, -⟩ := (imageWellFormed_iff image).1 h
  · rw [hone]; exact ⟨rfl, rfl⟩
  · rw [htwo]; exact ⟨rfl, rfl⟩

/-- The palette after power-up is the parameter's (R450). -/
theorem poweredUp_palette (params : Params) (cart : Cartridge) (i : Fin 32) :
    Memory.read .palette (poweredUp params cart).ppu.palette i = params.palettePowerUp[i] := by
  unfold poweredUp
  rw [Memory.read_ofBytes]
  simp

/-- Bytes that read as an unlisted index leave a block empty. -/
theorem Memory.ofBytes_replicate_fill (sp : Space) (i n : Nat) : Memory.ofBytes sp i (List.replicate n sp.fill) = [] := by
  induction n generalizing i with
  | zero => rfl
  | succ n ih => rw [List.replicate_succ, Memory.ofBytes, if_pos rfl, ih]

/-- The page counts of an image are those of its header (R85). -/
theorem imagePages_of_header {header : List Byte} (hlen : header.length = 16) (rest : List Byte) :
    imagePrgPages (header ++ rest) = (header.getD 4 0x00#8).toNat ∧ imageChrPages (header ++ rest) = (header.getD 5 0x00#8).toNat := by
  unfold imagePrgPages imageChrPages
  rw [List.getD_append _ _ _ _ (by omega), List.getD_append _ _ _ _ (by omega)]
  exact ⟨rfl, rfl⟩

/-- An image of two program pages that are all zeros, with zeros after them, is the blank cartridge (log entry 3). -/
theorem cartridgeOf_zeros {header : List Byte} (hlen : header.length = 16) (hprg : header.getD 4 0x00#8 = 0x02#8) (n : Nat) :
    cartridgeOf (header ++ List.replicate n 0x00#8) = Cartridge.blank := by
  have hpages : imagePrgPages (header ++ List.replicate n 0x00#8) = 2 := by
    rw [(imagePages_of_header hlen _).1, hprg]
    rfl
  have hslice (start m : Nat) :
      ∃ k, ((header ++ List.replicate n 0x00#8).drop (16 + start)).take m = List.replicate k 0x00#8 :=
    ⟨_, by rw [← hlen, List.drop_length_add_append, List.drop_replicate, List.take_replicate]⟩
  obtain ⟨k, hk⟩ := hslice 0 (16384 * 2)
  obtain ⟨l, hl⟩ := hslice (16384 * 2) (8192 * imageChrPages (header ++ List.replicate n 0x00#8))
  have hprgRom : Memory.ofBytes .prg32 0 (List.replicate k 0x00#8) = [] := Memory.ofBytes_replicate_fill .prg32 0 k
  have hchrRom : Memory.ofBytes .chr 0 (List.replicate l 0x00#8) = [] := Memory.ofBytes_replicate_fill .chr 0 l
  simp only [cartridgeOf, imagePrg, imageChr, hpages, headerBytes]
  rw [hk, hl]
  exact congrArg₂ (Cartridge.mk .two) hprgRom hchrRom

/-- Settles O59: an image is admitted by its header and length (R87), its slices become the ROMs (R85), and the reset reads the last
vector of the program slice. -/
theorem powerUpBuildsTheMachine : Obligations.PowerUpBuildsTheMachine := by
  refine ⟨fun params image p c hp hc => ⟨fun h => ?refused, fun h => ?admitted⟩, fun header hlen hprg hchr => ?zeros⟩
  case refused =>
    subst hp hc
    rw [powerUp, if_neg ((imageWellFormed_iff image).not.2 h)]
  case admitted =>
    subst hp hc
    have hw := (imageWellFormed_iff image).2 h
    obtain ⟨hhi, hlo⟩ := cartridgeOf_resetVector hw
    refine ⟨_, powerUp_of_admitted hw params, fun i hi => ?prg, fun i hi => cartridgeOf_chrByte hw hi, ?cpu, fun i => rfl,
      poweredUp_palette params (cartridgeOf image), rfl, fun pc => ?powerUpAt⟩
    case prg =>
      have hmod : i % (16384 * imagePrgPages image) = i := Nat.mod_eq_of_lt hi
      exact (cartridgeOf_prgByte hw i).trans (by rw [hmod])
    case cpu => rw [hhi, hlo]; rfl
    case powerUpAt => rw [powerUpAt, powerUp_of_admitted hw]
  case zeros =>
    have hw : imageWellFormed (header ++ List.replicate 40960 0x00#8) = true := by
      rw [imageWellFormed_iff, (imagePages_of_header hlen _).1, (imagePages_of_header hlen _).2, hprg, hchr, List.length_append,
        hlen, List.length_replicate]
      decide
    rw [powerUp_of_admitted hw, cartridgeOf_zeros hlen hprg]
    rfl

end Sys2Proof.Machine
end

section
/-! PROOFS of the memory family: the memory frame. What an instruction stores to is listed by `writtenAddresses`; all its other bus
accesses are reads. -/

namespace Sys2Proof.Machine

/-- Everything that no bus access changes: the PPU's position, pipelines and secondary OAM, the buttons, the cartridge, the parameters,
the inputs, the output and the interrupt line. -/
abbrev BusFrame (s t : State) : Prop :=
  t = { s with
    cpu := t.cpu
    ram := t.ram
    pad1 := { s.pad1 with strobe := t.pad1.strobe, shift := t.pad1.shift }
    pad2 := { s.pad2 with strobe := t.pad2.strobe, shift := t.pad2.shift }
    ppu := { s.ppu with
      ctrl := t.ppu.ctrl, mask := t.ppu.mask, status := t.ppu.status, oamAddr := t.ppu.oamAddr, v := t.ppu.v, t := t.ppu.t
      w := t.ppu.w, readBuffer := t.ppu.readBuffer, vram := t.ppu.vram, palette := t.ppu.palette, oam := t.ppu.oam } }

theorem BusFrame.trans {s t u : State} (h : BusFrame s t) (k : BusFrame t u) : BusFrame s u := by
  unfold BusFrame at *
  rw [k, h]

/-- The PPU registers and memories that only port writes change. -/
abbrev PortsKept (q r : Ppu) : Prop :=
  (r.ctrl, r.mask, r.t, r.oamAddr, r.vram, r.palette) = (q.ctrl, q.mask, q.t, q.oamAddr, q.vram, q.palette)

/-- No address of a list selects a PPU port. -/
def NoPort (ws : List Word) : Prop := ∀ w ∈ ws, ∀ p, cpuDecode w ≠ .ppuPort p

/-- The state `t` follows from `s` by bus reads, changes of the CPU's registers and writes at the addresses `ws`: what those writes do
not select is as before. -/
structure MemoryFramed (ws : List Word) (s t : State) : Prop where
  frame : BusFrame s t
  ram : ∀ k, (∀ w ∈ ws, cpuDecode w ≠ .ram k) → Memory.read .ram t.ram k = Memory.read .ram s.ram k
  ports : NoPort ws → PortsKept s.ppu t.ppu
  oam : NoPort ws → (∀ w ∈ ws, cpuDecode w ≠ .oamDma) → t.ppu.oam = s.ppu.oam
  strobe1 : (∀ w ∈ ws, cpuDecode w ≠ .pad1) → t.pad1.strobe = s.pad1.strobe
  strobe2 : (∀ w ∈ ws, cpuDecode w ≠ .pad2) → t.pad2.strobe = s.pad2.strobe

section
variable {ws : List Word} {s t u : State}

theorem MemoryFramed.trans (h : MemoryFramed ws s t) (k : MemoryFramed ws t u) : MemoryFramed ws s u where
  frame := h.frame.trans k.frame
  ram i hi := (k.ram i hi).trans (h.ram i hi)
  ports hp := (k.ports hp).trans (h.ports hp)
  oam hp hd := (k.oam hp hd).trans (h.oam hp hd)
  strobe1 hw := (k.strobe1 hw).trans (h.strobe1 hw)
  strobe2 hw := (k.strobe2 hw).trans (h.strobe2 hw)

/-- A change of the CPU's registers alone. -/
theorem MemoryFramed.of_cpu (ws : List Word) (h : t = { s with cpu := t.cpu }) : MemoryFramed ws s t := by
  rw [h]
  exact ⟨rfl, fun _ _ => rfl, fun _ => rfl, fun _ _ => rfl, fun _ => rfl, fun _ => rfl⟩

/-- A bus read has side effects on `status`, `w`, `v`, `readBuffer` and the shift indexes alone (R83). -/
theorem MemoryFramed.of_read (ws : List Word) (addr : Word) (s : State) : MemoryFramed ws s (memRead addr s).2 := by
  rw [(readSideEffects addr s).2 _ rfl]
  exact ⟨rfl, fun _ _ => rfl, fun _ => rfl, fun _ _ => rfl, fun _ => rfl, fun _ => rfl⟩

/-- A write to RAM leaves every other byte (R63). -/
theorem MemoryFramed.of_ramWrite {addr : Word} {k : Nat} (hmem : addr ∈ ws) (hk : cpuDecode addr = .ram k) (b : Byte) (s : State) :
    MemoryFramed ws s { s with ram := Memory.write .ram s.ram k b } where
  frame := rfl
  ram i hi := by
    have hne : i ≠ k := fun e => hi addr hmem (e ▸ hk)
    rw [Memory.read_write, if_neg hne]
  ports _ := rfl
  oam _ _ := rfl
  strobe1 _ := rfl
  strobe2 _ := rfl

/-- A write to a PPU port, which the frame of the ports excludes. -/
theorem MemoryFramed.of_portWrite {addr : Word} {p : PpuPort} (hmem : addr ∈ ws) (hp : cpuDecode addr = .ppuPort p)
    (h : PortFrame s t) : MemoryFramed ws s t := by
  have hports : ¬NoPort ws := fun hno => hno addr hmem p hp
  rw [h]
  exact ⟨rfl, fun _ _ => rfl, fun hno => absurd hno hports, fun hno => absurd hno hports, fun _ => rfl, fun _ => rfl⟩

theorem oamDmaByte_onlyShiftsMove (page : Byte) (s : State) (i : Nat) : OnlyShiftsMove s (oamDmaByte page s i) :=
  have h := memRead_onlyShiftsMove (Word.ofBytes page (BitVec.ofNat 8 i)) s
  ⟨h.pad1, h.pad2⟩

theorem oamDma_fold_onlyShiftsMove (page : Byte) (l : List Nat) (s : State) : OnlyShiftsMove s (l.foldl (oamDmaByte page) s) := by
  induction l generalizing s with
  | nil => exact .refl s
  | cons i l ih => exact (oamDmaByte_onlyShiftsMove page s i).trans (ih _)

/-- The DMA reads its page and writes OAM (R421). -/
theorem MemoryFramed.of_oamDma {addr : Word} (hmem : addr ∈ ws) (hd : cpuDecode addr = .oamDma) (page : Byte) (s : State) :
    MemoryFramed ws s (oamDma page s) := by
  obtain ⟨h1, h2⟩ : OnlyShiftsMove s (oamDma page s) :=
    have h := oamDma_fold_onlyShiftsMove page (List.range 256) s
    ⟨h.pad1, h.pad2⟩
  have h := oamDma_frame page s
  generalize oamDma page s = t at h h1 h2 ⊢
  unfold DmaFrame at h
  rw [h1, h2] at h
  rw [h]
  exact ⟨rfl, fun _ _ => rfl, fun _ => rfl, fun _ hno => absurd hd (hno addr hmem), fun _ => rfl, fun _ => rfl⟩

/-- A write at one of the addresses, to whatever it selects (R62). -/
theorem MemoryFramed.of_write {addr : Word} {b : Byte} (hmem : addr ∈ ws) (hw : memWrite addr b s = .ok t) :
    MemoryFramed ws s t := by
  rcases memWrite_cases addr b s with ⟨k, hd, e⟩ | ⟨p, u, hd, _, e, hu⟩ | ⟨hd, e⟩ | ⟨hd, e⟩ | ⟨hd, e⟩ | e | ⟨_, _, e⟩ <;>
    rw [hw] at e <;> cases e
  · exact .of_ramWrite hmem hd b s
  · exact .of_portWrite hmem hd hu
  · exact .of_oamDma hmem hd b s
  · exact ⟨rfl, fun _ _ => rfl, fun _ => rfl, fun _ _ => rfl, fun hno => absurd hd (hno addr hmem), fun _ => rfl⟩
  · exact ⟨rfl, fun _ _ => rfl, fun _ => rfl, fun _ _ => rfl, fun _ => rfl, fun hno => absurd hd (hno addr hmem)⟩
  · exact .of_cpu ws rfl

theorem MemoryFramed.of_resolve (ws : List Word) (o : Operand) (s : State) : MemoryFramed ws s (resolve o s).2 := by
  cases o with
  | indirect | indexedIndirect | indirectIndexed => exact (of_read ws _ s).trans (of_read ws _ _)
  | none | implied | accumulator | immediate | zeroPage | zeroPageX | zeroPageY | relative | absolute | absoluteX | absoluteY =>
    exact .of_cpu ws rfl

/-! The stack. -/

theorem MemoryFramed.of_push8 {b : Byte} (hmem : stackSlot s.cpu.sp ∈ ws) (hp : push8 b s = .ok t) : MemoryFramed ws s t := by
  obtain ⟨u, hu, ht⟩ := bind_ok hp
  cases ht
  exact (of_write hmem hu).trans (.of_cpu ws rfl)

theorem MemoryFramed.of_push16 {w : Word} (hhi : stackSlot s.cpu.sp ∈ ws) (hlo : stackSlot (s.cpu.sp - 1#8) ∈ ws)
    (hp : push16 w s = .ok t) : MemoryFramed ws s t := by
  unfold push16 at hp
  rw [push8_eq] at hp
  exact (of_push8 hhi (push8_eq w.hi s)).trans (of_push8 hlo hp)

theorem MemoryFramed.of_takeInterrupt {returnTo vector : Word} {status : Byte} (hhi : stackSlot s.cpu.sp ∈ ws)
    (hlo : stackSlot (s.cpu.sp - 1#8) ∈ ws) (hp : stackSlot (s.cpu.sp - 2#8) ∈ ws)
    (ht : takeInterrupt returnTo status vector s = .ok t) : MemoryFramed ws s t := by
  obtain ⟨u, hu, ht⟩ := bind_ok ht
  obtain ⟨v, hv, ht⟩ := bind_ok ht
  cases ht
  have hsp : u.cpu.sp = s.cpu.sp - 2#8 := by
    rw [push16_eq] at hu
    cases hu
    exact BitVec.sub_sub _ _ _
  have hpushed : MemoryFramed ws s v := (of_push16 hhi hlo hu).trans (of_push8 (hsp ▸ hp) hv)
  have hvector : MemoryFramed ws v (read16 vector (v.setFlag .i true)).2 :=
    ((of_cpu ws rfl).trans (of_read ws vector _)).trans (of_read ws (vector + 1#16) _)
  exact (hpushed.trans hvector).trans (.of_cpu ws rfl)

/-! The shapes of the semantic routines. -/

theorem effectiveAddress_ok {row : Row} {ops : Operands} {ea : Word} (h : effectiveAddress row ops = .ok ea) :
    ops.operand = .address ea := by
  unfold effectiveAddress at h
  split at h <;> cases h
  assumption

section
variable {row : Row} {ops : Operands} {n : Nat}

theorem reading_framed {f : Byte → State → State} (hr : reading f row ops s = .ok (n, t))
    (hf : ∀ b s, f b s = { s with cpu := (f b s).cpu }) : MemoryFramed ws s t := by
  obtain ⟨p, hp, ht⟩ := bind_ok hr
  cases ht
  unfold readOperand at hp
  split at hp <;> cases hp
  · exact .of_cpu ws (hf _ s)
  · exact (MemoryFramed.of_read ws _ s).trans (.of_cpu ws (hf _ _))

theorem immediateOnly_framed {f : Byte → State → State} (hr : immediateOnly f row ops s = .ok (n, t))
    (hf : ∀ b s, f b s = { s with cpu := (f b s).cpu }) : MemoryFramed ws s t := by
  obtain ⟨b, _, ht⟩ := bind_ok hr
  cases ht
  exact .of_cpu ws (hf b s)

theorem registers_framed {f : State → State} (hr : registers f row ops s = .ok (n, t))
    (hf : ∀ s, f s = { s with cpu := (f s).cpu }) : MemoryFramed ws s t := by
  cases hr
  exact .of_cpu ws (hf s)

theorem branching_framed {f : Flag} {wanted : Bool} (hr : branching f wanted row ops s = .ok (n, t)) : MemoryFramed ws s t := by
  obtain ⟨ea, _, hr⟩ := bind_ok hr
  split at hr <;> cases hr <;> exact .of_cpu ws rfl

theorem storing_framed {v : State → Byte} (hr : storing v row ops s = .ok (n, t)) :
    ∃ ea, ops.operand = .address ea ∧ MemoryFramed [ea] s t := by
  obtain ⟨ea, hea, hr⟩ := bind_ok hr
  obtain ⟨u, hu, ht⟩ := bind_ok hr
  cases ht
  exact ⟨ea, effectiveAddress_ok hea, .of_write (List.mem_singleton_self ea) hu⟩

theorem storeHi_framed {reg idx : Byte} (hr : storeHi reg idx row ops s = .ok (n, t)) :
    ∃ ea, ops.operand = .address ea ∧ MemoryFramed [storeHiAddress ops.pageCrossed reg idx ea] s t := by
  obtain ⟨ea, hea, hr⟩ := bind_ok hr
  obtain ⟨u, hu, ht⟩ := bind_ok hr
  cases ht
  exact ⟨ea, effectiveAddress_ok hea, .of_write (List.mem_singleton_self _) hu⟩

theorem modifying_framed {f : Byte → State → Byte × State} {g : Byte → State → State}
    (hr : modifying f g row ops s = .ok (n, t)) (hf : ∀ b s, (f b s).2 = { s with cpu := (f b s).2.cpu })
    (hg : ∀ b s, g b s = { s with cpu := (g b s).cpu }) : ∃ ea, ops.operand = .address ea ∧ MemoryFramed [ea] s t := by
  obtain ⟨ea, hea, hr⟩ := bind_ok hr
  obtain ⟨u, hu, ht⟩ := bind_ok hr
  cases ht
  have hread := (MemoryFramed.of_read [ea] ea s).trans (.of_cpu [ea] (hf (memRead ea s).1 _))
  have hwritten := hread.trans (.of_write (List.mem_singleton_self ea) hu)
  exact ⟨ea, effectiveAddress_ok hea, hwritten.trans (.of_cpu [ea] (hg _ u))⟩

theorem shifting_framed {f : Byte → State → Byte × State} (hr : shifting f row ops s = .ok (n, t))
    (hf : ∀ b s, (f b s).2 = { s with cpu := (f b s).2.cpu }) :
    (∃ ea, ops.operand = .address ea ∧ MemoryFramed [ea] s t) ∨ t = { s with cpu := t.cpu } := by
  unfold shifting at hr
  split at hr
  case h_1 =>
    cases hr
    refine .inr ?_
    rw [hf]
    rfl
  all_goals exact .inl (modifying_framed hr hf fun _ _ => rfl)

theorem pushing_framed {f : State → Except Fault State} (hr : pushing f row ops s = .ok (n, t))
    (hf : ∀ u, f s = .ok u → MemoryFramed ws s u) : MemoryFramed ws s t := by
  obtain ⟨u, hu, ht⟩ := bind_ok hr
  cases ht
  exact hf _ hu

theorem jmpRoutine_framed (hr : jmpRoutine row ops s = .ok (n, t)) : MemoryFramed ws s t := by
  obtain ⟨ea, _, ht⟩ := bind_ok hr
  cases ht
  exact .of_cpu ws rfl

theorem jsrRoutine_framed (hhi : stackSlot s.cpu.sp ∈ ws) (hlo : stackSlot (s.cpu.sp - 1#8) ∈ ws)
    (hr : jsrRoutine row ops s = .ok (n, t)) : MemoryFramed ws s t := by
  obtain ⟨ea, _, hr⟩ := bind_ok hr
  obtain ⟨u, hu, ht⟩ := bind_ok hr
  cases ht
  exact (MemoryFramed.of_push16 hhi hlo hu).trans (.of_cpu ws rfl)

theorem tasRoutine_framed (hr : tasRoutine row ops s = .ok (n, t)) :
    ∃ ea, ops.operand = .address ea ∧
      MemoryFramed [storeHiAddress ops.pageCrossed (s.cpu.a &&& s.cpu.x) s.cpu.y ea] s t := by
  obtain ⟨ea, hea, h⟩ := storeHi_framed hr
  exact ⟨ea, hea, (MemoryFramed.of_cpu _ rfl).trans h⟩

end

end

/-- The routine of an instruction's mnemonic writes at the instruction's written addresses alone. -/
theorem routineOf_framed {i : Instr} {s t : State} {n : Nat}
    (hr : routineOf i.row.mnemonic i.row (operandsAt i s) (resolvedAt i s) = .ok (n, t)) :
    MemoryFramed (writtenAddresses i s) (resolvedAt i s) t := by
  have hcpu := resolvedAt_cpu i s
  unfold writtenAddresses
  generalize i.row.mnemonic = m at hr ⊢
  cases m <;> dsimp only [routineOf] at hr
  case lda | ldx | ldy | lax | las | and | ora | eor | adc | sbc | cmp | cpx | cpy | bit =>
    exact reading_framed hr fun _ _ => rfl
  case anc | alr | arr | axs | xaa | lxa => exact immediateOnly_framed hr fun _ _ => rfl
  case tax | tay | tsx | txa | txs | tya | inx | iny | dex | dey | clc | cld | cli | clv | sec | sed | sei | nop | kil =>
    exact registers_framed hr fun _ => rfl
  case pla | plp => exact registers_framed hr fun s => by rw [pull8_eq]; rfl
  case rts => exact registers_framed hr fun s => by rw [pull16_eq]; rfl
  case rti => exact registers_framed hr fun s => by rw [returnFromInterrupt_eq]
  case bcc | bcs | beq | bmi | bne | bpl | bvc | bvs => exact branching_framed hr
  case jmp => exact jmpRoutine_framed hr
  case sta | stx | sty | sax =>
    obtain ⟨ea, hea, h⟩ := storing_framed hr
    simpa only [hea] using h
  case inc | dec | dcp | isb | slo | rla | sre | rra =>
    obtain ⟨ea, hea, h⟩ := modifying_framed hr (fun _ _ => rfl) fun _ _ => rfl
    simpa only [hea] using h
  case asl | lsr | rol | ror =>
    obtain ⟨ea, hea, h⟩ | h := shifting_framed hr fun _ _ => rfl
    · simpa only [hea] using h
    · exact .of_cpu _ h
  case ahx | shy | shx =>
    obtain ⟨ea, hea, h⟩ := storeHi_framed hr
    simpa only [hea, hcpu] using h
  case tas =>
    obtain ⟨ea, hea, h⟩ := tasRoutine_framed hr
    simpa only [hea, hcpu] using h
  case pha | php => exact pushing_framed hr fun _ => .of_push8 (by simp)
  case jsr => exact jsrRoutine_framed (by simp) (by simp) hr
  case brk => exact pushing_framed hr fun _ => .of_takeInterrupt (by simp) (by simp) (by simp)

/-- An instruction that completes ran its routine to the end. -/
theorem exec_next {i : Instr} {s t : State} (he : exec i s = .next t) :
    ∃ n u, routineOf i.row.mnemonic i.row (operandsAt i s) (resolvedAt i s) = .ok (n, u) ∧
      t = u.addStall (cost i.row (operandsAt i s) n - 1) := by
  rw [exec_eq_execute] at he
  cases hrow : rowExecutes i.row s.params with
  | false => rw [execute_gated i _ s hrow] at he; cases he
  | true =>
    rw [execute_eq i _ s hrow] at he
    split at he <;> cases he
    case h_2 n u hr => exact ⟨n, u, hr, rfl⟩

theorem exec_framed {i : Instr} {s t : State} (he : exec i s = .next t) : MemoryFramed (writtenAddresses i s) s t := by
  obtain ⟨n, u, hr, rfl⟩ := exec_next he
  have hresolved : MemoryFramed (writtenAddresses i s) s (resolvedAt i s) :=
    (MemoryFramed.of_cpu _ rfl).trans (.of_resolve _ i.operand (s.setPc (nextPc i s)))
  exact (hresolved.trans (routineOf_framed hr)).trans (.of_cpu _ rfl)

/-- A read of storage depends on RAM and on the cartridge alone. -/
theorem MemoryFramed.memRead_storage {ws : List Word} {s t : State} (h : MemoryFramed ws s t) {addr : Word}
    (haddr : isStorage addr = true) (hw : ∀ w ∈ ws, cpuDecode w ≠ cpuDecode addr) : (memRead addr t).1 = (memRead addr s).1 := by
  unfold isStorage at haddr
  split at haddr
  case h_1 k hk =>
    rw [memRead_of_ram hk, memRead_of_ram hk]
    exact h.ram k (hk ▸ hw)
  case h_2 k hk =>
    rw [memRead_of_prg hk, memRead_of_prg hk, h.frame]
  all_goals cases haddr

/-- Settles O28: an instruction's writes are those at its written addresses, and everything else it does keeps the frame. -/
theorem memoryFrame : Obligations.MemoryFrame := by
  intro i s t he
  have h := exec_framed he
  have hf := h.frame
  refine ⟨fun addr => h.memRead_storage, fun hp => ?ports, h.strobe1, h.strobe2, ?_⟩
  case ports =>
    have hk := h.ports hp
    simp only [Prod.mk.injEq] at hk
    obtain ⟨hctrl, hmask, ht, hoamAddr, hvram, hpalette⟩ := hk
    exact ⟨hctrl, hmask, ht, hoamAddr, hvram, hpalette, h.oam hp⟩
  rw [hf]
  exact ⟨rfl, rfl, rfl, rfl, rfl, rfl, rfl, rfl, rfl, rfl, rfl⟩

end Sys2Proof.Machine
end

section
/-! PROOFS of the encoding family. The decoder inverts the encoder on every instruction, drops no byte, and gives every opcode a meaning. -/

namespace Sys2Proof

/-! ### The decoder, by the cell that the opcode selects (R101) -/

theorem decode_of_alone {opcode : Byte} {i : Instr} (h : shapeOf opcode = .alone i) (tail : List Byte) :
    decode (opcode :: tail) = .ok (i, tail) := by
  simp only [decode, h]

theorem decode_of_withByte {opcode : Byte} {f : Byte → Instr} (h : shapeOf opcode = .withByte f) (b : Byte) (tail : List Byte) :
    decode (opcode :: b :: tail) = .ok (f b, tail) := by
  simp only [decode, h]

theorem decode_of_withWord {opcode : Byte} {f : Word → Instr} (h : shapeOf opcode = .withWord f) (lo hi : Byte) (tail : List Byte) :
    decode (opcode :: lo :: hi :: tail) = .ok (f (Word.ofBytes hi lo), tail) := by
  simp only [decode, h]

/-! ### The operand a cell takes: as many bytes as the cell reads -/

theorem Shape.build_alone {i j : Instr} {o : Operand} (h : (Shape.alone i).build o = some j) : o.bytes = [] ∧ i = j := by
  cases o
  case none | implied | accumulator => exact ⟨rfl, Option.some.inj h⟩
  all_goals cases h

theorem Shape.build_withByte {f : Byte → Instr} {j : Instr} {o : Operand} (h : (Shape.withByte f).build o = some j) :
    ∃ b, o.bytes = [b] ∧ f b = j := by
  cases o
  case immediate b | zeroPage b | zeroPageX b | zeroPageY b | relative b | indexedIndirect b | indirectIndexed b =>
    exact ⟨b, rfl, Option.some.inj h⟩
  all_goals cases h

theorem Shape.build_withWord {f : Word → Instr} {j : Instr} {o : Operand} (h : (Shape.withWord f).build o = some j) :
    ∃ w : Word, o.bytes = [w.lo, w.hi] ∧ f w = j := by
  cases o
  case absolute w | absoluteX w | absoluteY w | indirect w => exact ⟨w, rfl, Option.some.inj h⟩
  all_goals cases h

/-- What a cell makes of an operand is what the decoder makes of the operand's bytes. -/
theorem decode_of_build {opcode : Byte} {o : Operand} {i : Instr} (h : (shapeOf opcode).build o = some i) (rest : List Byte) :
    decode (opcode :: (o.bytes ++ rest)) = .ok (i, rest) := by
  cases hshape : shapeOf opcode with
  | alone j =>
    obtain ⟨hbytes, rfl⟩ := Shape.build_alone (hshape ▸ h)
    rw [hbytes]
    exact decode_of_alone hshape rest
  | withByte f =>
    obtain ⟨b, hbytes, rfl⟩ := Shape.build_withByte (hshape ▸ h)
    rw [hbytes]
    exact decode_of_withByte hshape b rest
  | withWord f =>
    obtain ⟨w, hbytes, rfl⟩ := Shape.build_withWord (hshape ▸ h)
    simpa [hbytes] using decode_of_withWord hshape w.lo w.hi rest

/-- Settles O1: the cell of an instruction's own opcode gives the instruction back from its operand. -/
theorem decodeEncodeRoundTrip : Obligations.DecodeEncodeRoundTrip :=
  fun i rest => decode_of_build (shapeOf_opcode i) rest

/-! ### What decodes is the encoding of what it decodes to -/

/-- What the decoder answers on bytes that start with `opcode`: an instruction of that opcode, whose operand bytes come next. -/
theorem opcode_and_bytes_of_decode {opcode : Byte} {tail rest : List Byte} {i : Instr} (h : decode (opcode :: tail) = .ok (i, rest)) :
    i.row.opcode = opcode ∧ i.operand.bytes ++ rest = tail := by
  have hfits := shapeOf_fits opcode
  simp only [decode] at h
  split at h <;> rename_i hshape <;> rw [hshape] at hfits <;> cases h
  case h_1 => exact hfits.imp_right (congrArg (· ++ rest))
  case h_2 b => exact (hfits b).imp_right (congrArg (· ++ rest))
  case h_3 lo hi => simpa using (hfits (Word.ofBytes hi lo)).imp_right (congrArg (· ++ rest))

theorem encode_append_of_decode {bytes rest : List Byte} {i : Instr} (h : decode bytes = .ok (i, rest)) :
    encode i ++ rest = bytes := by
  cases bytes with
  | nil => cases h
  | cons opcode tail =>
    obtain ⟨hopcode, hbytes⟩ := opcode_and_bytes_of_decode h
    rw [encode, hopcode, List.cons_append, hbytes]

/-- Three bytes are enough for every cell (R100). -/
theorem exists_decode_of_three_bytes (opcode b1 b2 : Byte) (rest : List Byte) :
    ∃ i rest', decode (opcode :: b1 :: b2 :: rest) = .ok (i, rest') := by
  cases hshape : shapeOf opcode with
  | alone i => exact ⟨i, _, decode_of_alone hshape _⟩
  | withByte f => exact ⟨f b1, _, decode_of_withByte hshape b1 _⟩
  | withWord f => exact ⟨f (Word.ofBytes b2 b1), _, decode_of_withWord hshape b1 b2 rest⟩

/-! ### The opcodes without a table row (R104, R293) -/

/-- The opcodes of the twelve halt slots (R293). -/
def haltOpcodes : List Byte :=
  [0x02#8, 0x12#8, 0x22#8, 0x32#8, 0x42#8, 0x52#8, 0x62#8, 0x72#8, 0x92#8, 0xB2#8, 0xD2#8, 0xF2#8]

theorem wellFormed_eq_false_iff (i : Instr) : i.wellFormed = false ↔ i.row.opcode ∈ haltOpcodes := by
  cases i <;> (simp only [Instr.wellFormed, Instr.row]; decide)

/-- Settles O2: every cell of the matrix fits its opcode (R105), so the bytes read are the encoding of the instruction; the tiers are
counted over the matrix. -/
theorem decodingIsTotalAndLossless : Obligations.DecodingIsTotalAndLossless := by
  refine ⟨fun _ _ _ => encode_append_of_decode, fun opcode b1 b2 rest => ?total, fun tier count h => ?tiers⟩
  case total =>
    obtain ⟨i, rest', h⟩ := exists_decode_of_three_bytes opcode b1 b2 rest
    obtain ⟨rfl, -⟩ := opcode_and_bytes_of_decode h
    exact ⟨i, rest', h, rfl, wellFormed_eq_false_iff i⟩
  case tiers =>
    simp only [List.mem_cons, List.not_mem_nil, or_false, Prod.mk.injEq] at h
    obtain ⟨rfl, rfl⟩ | ⟨rfl, rfl⟩ | ⟨rfl, rfl⟩ | ⟨rfl, rfl⟩ := h <;> decide +kernel

/-! ### Words of the table -/

theorem decode_eq_of_encode_eq {i : Instr} {bytes : List Byte} (h : encode i = bytes) : decode bytes = .ok (i, []) := by
  rw [← h, ← List.append_nil (encode i)]
  exact decodeEncodeRoundTrip i []

/-- Settles O3: each word is the encoding of its instruction. -/
theorem wordsOfTheTableDecode : Obligations.WordsOfTheTableDecode := by
  refine ⟨?_, ?_, ?_, ?_, ?_, ?_, ?_, ?_, ?_, ?_, ?_⟩ <;> exact decode_eq_of_encode_eq rfl

end Sys2Proof
end

section
/-! PROOFS of the step and addressing family: the fetch, the step and the machine cycle. -/

namespace Sys2Proof.Machine

/-! ### The fetch, by the cell that the opcode selects (R131, R134) -/

section
variable {s s1 s2 s3 : State} {opcode lo hi : Byte}

theorem fetch_of_alone {i : Instr} (h1 : memRead s.cpu.pc s = (opcode, s1)) (h : shapeOf opcode = .alone i) :
    fetch s = (i, s1) := by
  simp only [fetch, h1, h]

theorem fetch_of_withByte {f : Byte → Instr} (h1 : memRead s.cpu.pc s = (opcode, s1))
    (h2 : memRead (s.cpu.pc + 1#16) s1 = (lo, s2)) (h : shapeOf opcode = .withByte f) : fetch s = (f lo, s2) := by
  simp only [fetch, h1, h, h2]

theorem fetch_of_withWord {f : Word → Instr} (h1 : memRead s.cpu.pc s = (opcode, s1))
    (h2 : memRead (s.cpu.pc + 1#16) s1 = (lo, s2)) (h3 : memRead (s.cpu.pc + 2#16) s2 = (hi, s3))
    (h : shapeOf opcode = .withWord f) : fetch s = (f (Word.ofBytes hi lo), s3) := by
  simp only [fetch, h1, h, h2, h3]

end

theorem Operand.length_bytes (o : Operand) : o.bytes.length = o.mode.operandBytes := by cases o <;> rfl

theorem length_encode (i : Instr) : (encode i).length = i.length := by
  rw [encode, List.length_cons, Operand.length_bytes, mode_eq, length_eq, Nat.add_comm]

/-- Settles O5: the cell that the opcode selects takes as many operand bytes as its instruction is encoded with. -/
theorem fetchReadsEachByteOnce : Obligations.FetchReadsEachByteOnce := by
  intro s
  rw [← length_encode]
  obtain ⟨opcode, s1, h1⟩ : ∃ opcode s1, memRead s.cpu.pc s = (opcode, s1) := ⟨_, _, rfl⟩
  obtain ⟨lo, s2, h2⟩ : ∃ lo s2, memRead (s.cpu.pc + 1#16) s1 = (lo, s2) := ⟨_, _, rfl⟩
  obtain ⟨hi, s3, h3⟩ : ∃ hi s3, memRead (s.cpu.pc + 2#16) s2 = (hi, s3) := ⟨_, _, rfl⟩
  have hfits := shapeOf_fits opcode
  cases hshape : shapeOf opcode <;> rw [hshape] at hfits
  case alone i =>
    obtain ⟨hopcode, hbytes⟩ := hfits
    rw [fetch_of_alone h1 hshape, encode, hopcode, hbytes]
    simp [readBytes, h1]
  case withByte f =>
    obtain ⟨hopcode, hbytes⟩ := hfits lo
    rw [fetch_of_withByte h1 h2 hshape, encode, hopcode, hbytes]
    simp [readBytes, h1, h2]
  case withWord f =>
    obtain ⟨hopcode, hbytes⟩ := hfits (Word.ofBytes hi lo)
    rw [fetch_of_withWord h1 h2 h3 hshape, encode, hopcode, hbytes]
    simp [readBytes, h1, h2, h3, BitVec.add_assoc]

/-- A read of storage has no side effect (R83). -/
theorem memRead_of_storage {addr : Word} (h : isStorage addr = true) (s : State) : memRead addr s = ((memRead addr s).1, s) := by
  unfold isStorage at h
  split at h
  case h_1 k hk => rw [memRead_of_ram hk]
  case h_2 k hk => rw [memRead_of_prg hk]
  all_goals cases h

/-- Where three bytes of storage decode, the fetch gives their instruction and changes nothing. -/
theorem fetch_of_storage {s : State} {i : Instr} {rest : List Byte} (hs1 : isStorage s.cpu.pc = true)
    (hs2 : isStorage (s.cpu.pc + 1#16) = true) (hs3 : isStorage (s.cpu.pc + 2#16) = true)
    (hd : decode (readBytes 3 s.cpu.pc s).1 = .ok (i, rest)) : fetch s = (i, s) := by
  obtain ⟨opcode, h1⟩ : ∃ b, memRead s.cpu.pc s = (b, s) := ⟨_, memRead_of_storage hs1 s⟩
  obtain ⟨lo, h2⟩ : ∃ b, memRead (s.cpu.pc + 1#16) s = (b, s) := ⟨_, memRead_of_storage hs2 s⟩
  obtain ⟨hi, h3⟩ : ∃ b, memRead (s.cpu.pc + 2#16) s = (b, s) := ⟨_, memRead_of_storage hs3 s⟩
  have hbytes : (readBytes 3 s.cpu.pc s).1 = [opcode, lo, hi] := by simp [readBytes, h1, h2, h3, BitVec.add_assoc]
  rw [hbytes] at hd
  cases hshape : shapeOf opcode with
  | alone j =>
    rw [decode_of_alone hshape] at hd
    cases hd
    exact fetch_of_alone h1 hshape
  | withByte f =>
    rw [decode_of_withByte hshape] at hd
    cases hd
    exact fetch_of_withByte h1 h2 hshape
  | withWord f =>
    rw [decode_of_withWord hshape] at hd
    cases hd
    exact fetch_of_withWord h1 h2 h3 hshape

theorem fetch_frame (s : State) : ReadFrame s (fetch s).2 := by
  unfold fetch
  dsimp only
  split
  · exact memRead_frame _ s
  · exact (memRead_frame _ s).trans (memRead_frame _ _)
  · exact ((memRead_frame _ s).trans (memRead_frame _ _)).trans (memRead_frame _ _)

/-! ### The CPU's branch of a cycle (R130) -/

theorem cpuAction_of_stall {s : State} (h : 0 < s.cpu.stall) :
    cpuAction s = .next { s with cpu := { s.cpu with stall := s.cpu.stall - 1 } } := by
  rw [cpuAction, if_pos h]

theorem cpuAction_of_execute {s : State} (hstall : s.cpu.stall = 0) (hline : s.nmiLine = false) :
    cpuAction s = exec (fetch s).1 (fetch s).2 := by
  simp only [cpuAction, hstall, hline, Nat.lt_irrefl, Bool.false_eq_true, if_false, executeInstruction]

theorem step_of_cpuAction {s t : State} (h : cpuAction (takeInput s) = .next t) : step s = .next (finishCycle t) := by
  simp only [step, machineCycle, h]

/-- A step that completes is the CPU's action and the end of the cycle (R430). -/
theorem step_next {s t : State} (h : step s = .next t) : ∃ v, cpuAction (takeInput s) = .next v ∧ t = finishCycle v := by
  unfold step machineCycle at h
  split at h
  case h_1 v hv => exact ⟨v, hv, (Host.Outcome.next.inj h).symm⟩
  case h_2 => cases h
  case h_3 => cases h

/-- Settles O6: with neither stall nor interrupt the CPU's action is the execution of what the fetch yields. -/
theorem stepRunsTheDecodedInstruction : Obligations.StepRunsTheDecodedInstruction := by
  rintro s u rfl hstall hline
  have haction := cpuAction_of_execute hstall hline
  refine ⟨?_, fun i rest hs1 hs2 hs3 hd => ?_⟩
  · unfold step machineCycle
    rw [haction]
    cases exec (fetch (takeInput s)).1 (fetch (takeInput s)).2 <;> rfl
  · unfold step machineCycle
    rw [haction, fetch_of_storage hs1 hs2 hs3 hd]
    cases exec i (takeInput s) <;> rfl

/-! ### What one CPU cycle leaves alone -/

/-- What the CPU's branch of a cycle leaves alone: the cycle count, the cartridge, the parameters, the coming inputs and the position of
the PPU. -/
structure ActionFrame (s t : State) : Prop where
  cyc : t.cpu.cyc = s.cpu.cyc
  cart : t.cart = s.cart
  params : t.params = s.params
  inputs : t.inputs = s.inputs
  position : (t.ppu.scanline, t.ppu.dot, t.ppu.frame) = (s.ppu.scanline, s.ppu.dot, s.ppu.frame)

theorem ActionFrame.trans {s t u : State} (h : ActionFrame s t) (k : ActionFrame t u) : ActionFrame s u :=
  ⟨k.cyc.trans h.cyc, k.cart.trans h.cart, k.params.trans h.params, k.inputs.trans h.inputs, k.position.trans h.position⟩

theorem ActionFrame.of_busFrame {s t : State} (h : BusFrame s t) (hcyc : t.cpu.cyc = s.cpu.cyc) : ActionFrame s t := by
  refine ⟨hcyc, ?_, ?_, ?_, ?_⟩ <;> rw [h]

theorem exec_actionFrame {i : Instr} {s t : State} (h : exec i s = .next t) : ActionFrame s t := by
  obtain ⟨-, -, -, -, -, -, hcyc⟩ := registerFrame i s t h
  exact .of_busFrame (exec_framed h).frame hcyc

theorem fetch_actionFrame (s : State) : ActionFrame s (fetch s).2 := by
  rw [fetch_frame s]
  exact ⟨rfl, rfl, rfl, rfl, rfl⟩

theorem nmiEntry_actionFrame {s t : State} (h : nmiEntry s = .ok t) : ActionFrame s t := by
  obtain ⟨hlo, hhi, -⟩ := cpuDecode_vectors
  obtain ⟨u, hu, ht⟩ := bind_ok h
  rw [takeInterrupt_eq hlo hhi] at hu
  cases hu
  cases ht
  exact ⟨rfl, rfl, rfl, rfl, rfl⟩

theorem cpuAction_frame {s t : State} (h : cpuAction s = .next t) : ActionFrame s t := by
  unfold cpuAction at h
  split at h
  case isTrue =>
    cases h
    exact ⟨rfl, rfl, rfl, rfl, rfl⟩
  case isFalse =>
    split at h
    case isTrue =>
      split at h <;> cases h
      case h_2 hentry => exact nmiEntry_actionFrame hentry
    case isFalse => exact (fetch_actionFrame s).trans (exec_actionFrame h)

/-- One input is taken (R428), and a reset event that comes with it counts no cycle (R452). -/
theorem takeInput_frame (s : State) : (takeInput s).cpu.cyc = s.cpu.cyc ∧ (takeInput s).cart = s.cart ∧
    (takeInput s).params = s.params ∧ (takeInput s).inputs = s.inputs.tail := by
  unfold takeInput
  split
  case h_1 hnone => simp [hnone]
  case h_2 input rest hsome =>
    dsimp only
    split
    · rw [resetSequence_eq, hsome]
      exact ⟨rfl, rfl, rfl, rfl⟩
    · rw [hsome]
      exact ⟨rfl, rfl, rfl, rfl⟩

theorem finishCycle_eq_dots (s : State) : finishCycle s = dots 3 { s with cpu := { s.cpu with cyc := s.cpu.cyc + 1 } } := rfl

/-- Settles O54: the input, the CPU's action and the three dots each keep the frame; only the end of the CPU's cycle counts. -/
theorem machineCycleOrder : Obligations.MachineCycleOrder := by
  rintro s u rfl
  refine ⟨fun hstall => ?_, fun t ht => ?_⟩
  · rw [step_of_cpuAction (cpuAction_of_stall hstall), finishCycle_eq_dots]
  obtain ⟨v, hv, rfl⟩ := step_next ht
  obtain ⟨hcyc, hcart, hparams, hinputs⟩ := takeInput_frame s
  have hact := cpuAction_frame hv
  obtain ⟨hcpu, -, -, -, hcart', hparams', hinputs'⟩ := finishCycle_dotFrame v
  refine ⟨?_, (hcart'.trans hact.cart).trans hcart, (hparams'.trans hact.params).trans hparams,
    (hinputs'.trans hact.inputs).trans hinputs, v, finishCycle_eq_dots v, hact.position⟩
  rw [hcpu, ← hcyc, ← hact.cyc]
  rfl

end Sys2Proof.Machine
end

section
/-! PROOFS of the step and addressing family: the resolver and the table's cycle column. -/

namespace Sys2Proof.Machine

/-! ### Addresses by their pages (R154) -/

theorem Word.hi_toNat (w : Word) : w.hi.toNat = w.toNat / 256 := by
  have := w.isLt
  simp only [Word.hi, BitVec.extractLsb'_toNat, Nat.shiftRight_eq_div_pow]
  omega

theorem pageDiffers_eq (ea base : Word) : pageDiffers ea base = decide (ea.toNat / 256 ≠ base.toNat / 256) := by
  rw [Bool.eq_iff_iff]
  simp [pageDiffers, ← Word.hi_toNat, BitVec.toNat_inj]

theorem zext16_eq (b : Byte) : zext16 b = Word.ofBytes 0x00#8 b := by
  apply BitVec.eq_of_toNat_eq
  have := b.isLt
  simp only [zext16, BitVec.truncate_eq_setWidth, BitVec.toNat_setWidth, Word.ofBytes_toNat, BitVec.toNat_ofNat]
  omega

theorem Word.lo_add_one (w : Word) : (w + 1#16).lo = w.lo + 1#8 := by
  apply BitVec.eq_of_toNat_eq
  simp only [Word.lo, BitVec.extractLsb'_toNat, BitVec.toNat_add, Nat.shiftRight_zero, BitVec.toNat_ofNat]
  omega

/-- The second pointer byte of the Indirect mode lies in the page of the first (R150). -/
theorem pageWrapNext_eq (w : Word) : pageWrapNext w = Word.ofBytes w.hi (w.lo + 1#8) := by
  have hmask (b : Byte) : b &&& 0xFF#8 = b := BitVec.and_allOnes
  have hhi : (pageWrapNext w).hi = w.hi := by
    simp [pageWrapNext, Word.hi, BitVec.extractLsb'_or, BitVec.extractLsb'_and, hmask]
  have hlo : (pageWrapNext w).lo = w.lo + 1#8 := by
    rw [← Word.lo_add_one]
    simp [pageWrapNext, Word.lo, BitVec.extractLsb'_or, BitVec.extractLsb'_and, hmask]
  rw [← Word.ofBytes_hi_lo (pageWrapNext w), hhi, hlo]

theorem indexed_toNat (base : Word) (index : Byte) : (indexed base index).toNat = (base.toNat + index.toNat) % 65536 := by
  have := index.isLt
  simp [indexed, zext16]

theorem relativeTarget_toNat (base : Word) (off : Byte) :
    ((relativeTarget base off).toNat : Int) = (base.toNat + off.toInt) % 65536 := by
  have := off.isLt
  simp only [relativeTarget, sext8, BitVec.toNat_add, BitVec.toNat_signExtend, BitVec.toInt_eq_msb_cond, BitVec.toNat_setWidth]
  split <;> omega

/-! ### Words at a pointer (R150, R151, R152) -/

section
variable {s u v : State} {lo hi : Byte}

theorem indirectPointer_of_reads {w : Word} (h1 : memRead w s = (lo, u))
    (h2 : memRead (Word.ofBytes w.hi (w.lo + 1#8)) u = (hi, v)) : indirectPointer w s = (Word.ofBytes hi lo, v) := by
  simp only [indirectPointer, h1, pageWrapNext_eq, h2]

theorem zeroPagePointer_of_reads {z : Byte} (h1 : memRead (Word.ofBytes 0x00#8 z) s = (lo, u))
    (h2 : memRead (Word.ofBytes 0x00#8 (z + 1#8)) u = (hi, v)) : zeroPagePointer z s = (Word.ofBytes hi lo, v) := by
  simp only [zeroPagePointer, zext16_eq, h1, h2]

theorem zeroPagePointer_cpu (z : Byte) (s : State) : (zeroPagePointer z s).2.cpu = s.cpu :=
  (memRead_cpu _ _).trans (memRead_cpu _ s)

end

/-! ### The modes -/

/-- Settles O29: a mode with one address is read off the resolver; a mode with a pointer reads its two bytes first. -/
theorem resolverFollowsItsModes : Obligations.ResolverFollowsItsModes := by
  intro s b w
  refine ⟨fun o ho => ?nothing, rfl, ?zeroPage, ?zeroPageX, ?zeroPageY, rfl, ⟨_, ?relative, relativeTarget_toNat _ b⟩,
    ⟨_, ?absoluteX, indexed_toNat w _⟩, ⟨_, ?absoluteY, indexed_toNat w _⟩, fun lo hi u v h1 h2 => ?indirect,
    fun lo hi u v h1 h2 => ?indexedIndirect, fun lo hi u v h1 h2 => ?indirectIndexed⟩
  case nothing =>
    simp only [List.mem_cons, List.not_mem_nil, or_false] at ho
    obtain rfl | rfl | rfl := ho <;> rfl
  case zeroPage | zeroPageX | zeroPageY => rw [← zext16_eq]; rfl
  case relative | absoluteX | absoluteY => rw [← pageDiffers_eq]; rfl
  case indirect => simp only [resolve, indirectPointer_of_reads h1 h2, Operand.bytes]
  case indexedIndirect => simp only [resolve, zeroPagePointer_of_reads h1 h2, Operand.bytes]
  case indirectIndexed =>
    have hpointer := zeroPagePointer_of_reads h1 h2
    have hcpu : v.cpu = s.cpu := by
      have h := zeroPagePointer_cpu b s
      rwa [hpointer] at h
    have hpage : hi.toNat = (Word.ofBytes hi lo).toNat / 256 := by rw [← Word.hi_toNat, Word.hi_ofBytes]
    refine ⟨indexed (Word.ofBytes hi lo) s.cpu.y, ?_, by rw [indexed_toNat, Word.ofBytes_toNat]⟩
    rw [hpage, ← pageDiffers_eq]
    simp only [resolve, hpointer, hcpu, Operand.bytes]

/-- The modes that can cross a page (R154). -/
theorem mode_of_pageCrossed {o : Operand} {s : State} (h : (resolve o s).1.pageCrossed = true) :
    o.mode ∈ [Mode.relative, .absoluteX, .absoluteY, .indirectIndexed] := by
  cases o
  case relative | absoluteX | absoluteY | indirectIndexed => simp [Operand.mode]
  all_goals cases h

/-- Settles O4: the table is gone through row by row; the mode of a row is that of its operand. -/
theorem tableCostsFollowKindAndMode : Obligations.TableCostsFollowKindAndMode := by
  refine ⟨fun i => ?rows, fun i s h => ?crossing⟩
  case rows => cases i <;> simp only [Instr.row] <;> exact ⟨rfl, by decide⟩
  case crossing =>
    rw [← mode_eq]
    exact mode_of_pageCrossed h

end Sys2Proof.Machine
end

section
/-! PROOFS of the step and addressing family: the stall accounting. A routine answers the `execution_extra` of its rule, and of its bus
accesses only a write of the OAM-DMA port adds to the stall. -/

namespace Sys2Proof.Machine

/-- The stall cycles that writes at the addresses `ws` add: 512 where the OAM-DMA port is among them (R421). -/
def dmaStall (ws : List Word) : Nat := if 0x4014#16 ∈ ws then 512 else 0

@[simp] theorem dmaStall_nil : dmaStall [] = 0 := rfl

theorem stackSlot_ne_oamDma (sp : Byte) : (0x4014#16 : Word) ≠ stackSlot sp := by
  intro h
  have hram := cpuDecode_stackSlot sp
  rw [cpuDecode_eq_oamDma_iff.2 h.symm] at hram
  cases hram

/-- The stack lies in page 1 (R22), so pushes start no DMA. -/
theorem dmaStall_stackSlots (sps : List Byte) : dmaStall (sps.map stackSlot) = 0 := by
  refine if_neg fun h => ?_
  obtain ⟨sp, -, heq⟩ := List.mem_map.1 h
  exact stackSlot_ne_oamDma sp heq.symm

theorem oamDma_fold_cpu (page : Byte) (l : List Nat) (s : State) : (l.foldl (oamDmaByte page) s).cpu = s.cpu := by
  induction l generalizing s with
  | nil => rfl
  | cons i l ih => exact (ih _).trans (memRead_cpu _ s)

theorem oamDma_stall (page : Byte) (s : State) : (oamDma page s).cpu.stall = s.cpu.stall + 512 :=
  congrArg (fun c : Cpu => c.stall + 512) (oamDma_fold_cpu page (List.range 256) s)

section
variable {s t u : State}

theorem memWrite_stall {addr : Word} {b : Byte} (hw : memWrite addr b s = .ok t) :
    t.cpu.stall = s.cpu.stall + dmaStall [addr] := by
  by_cases hdma : addr = 0x4014#16
  case pos =>
    rw [memWrite, cpuDecode_eq_oamDma_iff.2 hdma] at hw
    cases hw
    rw [hdma]
    exact oamDma_stall b s
  case neg =>
    have hzero : dmaStall [addr] = 0 := if_neg (by simpa [eq_comm] using hdma)
    rw [hzero, Nat.add_zero]
    rcases memWrite_cases addr b s with ⟨_, _, e⟩ | ⟨_, u, _, _, e, hu⟩ | ⟨hd, _⟩ | ⟨_, e⟩ | ⟨_, e⟩ | e | ⟨_, _, e⟩
    case inr.inr.inl => exact absurd (cpuDecode_eq_oamDma_iff.1 hd) hdma
    all_goals rw [hw] at e; cases e
    case inr.inl => rw [hu]; rfl
    all_goals rfl

/-! The stack and the vectors. -/

theorem push8_stall {b : Byte} (h : push8 b s = .ok t) : t.cpu.stall = s.cpu.stall := by
  rw [push8_eq] at h
  cases h
  rfl

theorem push16_stall {w : Word} (h : push16 w s = .ok t) : t.cpu.stall = s.cpu.stall := by
  rw [push16_eq] at h
  cases h
  rfl

theorem brk_stall {returnTo : Word} {status : Byte} (h : takeInterrupt returnTo status brkVector s = .ok t) :
    t.cpu.stall = s.cpu.stall := by
  obtain ⟨-, -, -, -, hlo, hhi⟩ := cpuDecode_vectors
  rw [takeInterrupt_eq hlo hhi] at h
  cases h
  rfl

/-! The shapes of the semantic routines. -/

/-- A routine that answers `n` and the state `t`, run in the state `s`: its `execution_extra` is `extra`, and it adds the stall of the
writes at `ws`. -/
structure Accounted (ws : List Word) (extra : Nat) (s : State) (n : Nat) (t : State) : Prop where
  extra : n = extra
  stall : t.cpu.stall = s.cpu.stall + dmaStall ws

variable {row : Row} {ops : Operands} {n : Nat}

theorem reading_accounted {f : Byte → State → State} (hr : reading f row ops s = .ok (n, t))
    (hf : ∀ b s, (f b s).cpu.stall = s.cpu.stall) : Accounted [] 0 s n t := by
  obtain ⟨p, hp, ht⟩ := bind_ok hr
  cases ht
  refine ⟨rfl, (hf _ _).trans ?_⟩
  unfold readOperand at hp
  split at hp <;> cases hp
  · rfl
  · rw [memRead_cpu]; rfl

theorem immediateOnly_accounted {f : Byte → State → State} (hr : immediateOnly f row ops s = .ok (n, t))
    (hf : ∀ b s, (f b s).cpu.stall = s.cpu.stall) : Accounted [] 0 s n t := by
  obtain ⟨b, _, ht⟩ := bind_ok hr
  cases ht
  exact ⟨rfl, hf b s⟩

theorem registers_accounted {f : State → State} (hr : registers f row ops s = .ok (n, t))
    (hf : ∀ s, (f s).cpu.stall = s.cpu.stall) : Accounted [] 0 s n t := by
  cases hr
  exact ⟨rfl, hf s⟩

theorem branching_accounted {f : Flag} {wanted : Bool} (hr : branching f wanted row ops s = .ok (n, t)) :
    Accounted [] (if getFlag s.cpu.p f = wanted then 1 + (if ops.pageCrossed then 1 else 0) else 0) s n t := by
  obtain ⟨ea, _, hr⟩ := bind_ok hr
  split at hr
  case isTrue htaken =>
    cases hr
    exact ⟨(if_pos htaken).symm, rfl⟩
  case isFalse hnot =>
    cases hr
    exact ⟨(if_neg hnot).symm, rfl⟩

theorem storing_accounted {v : State → Byte} (hr : storing v row ops s = .ok (n, t)) :
    ∃ ea, ops.operand = .address ea ∧ Accounted [ea] 0 s n t := by
  obtain ⟨ea, hea, hr⟩ := bind_ok hr
  obtain ⟨u, hu, ht⟩ := bind_ok hr
  cases ht
  exact ⟨ea, effectiveAddress_ok hea, rfl, memWrite_stall hu⟩

theorem storeHi_accounted {reg idx : Byte} (hr : storeHi reg idx row ops s = .ok (n, t)) :
    ∃ ea, ops.operand = .address ea ∧ Accounted [storeHiAddress ops.pageCrossed reg idx ea] 0 s n t := by
  obtain ⟨ea, hea, hr⟩ := bind_ok hr
  obtain ⟨u, hu, ht⟩ := bind_ok hr
  cases ht
  exact ⟨ea, effectiveAddress_ok hea, rfl, memWrite_stall hu⟩

theorem modifying_accounted {f : Byte → State → Byte × State} {g : Byte → State → State}
    (hr : modifying f g row ops s = .ok (n, t)) (hf : ∀ b s, (f b s).2.cpu.stall = s.cpu.stall)
    (hg : ∀ b s, (g b s).cpu.stall = s.cpu.stall) : ∃ ea, ops.operand = .address ea ∧ Accounted [ea] 0 s n t := by
  obtain ⟨ea, hea, hr⟩ := bind_ok hr
  obtain ⟨u, hu, ht⟩ := bind_ok hr
  cases ht
  have hread : (f (memRead ea s).1 (memRead ea s).2).2.cpu.stall = s.cpu.stall := by rw [hf, memRead_cpu]
  refine ⟨ea, effectiveAddress_ok hea, rfl, (hg _ u).trans ((memWrite_stall hu).trans ?_)⟩
  exact congrArg (· + dmaStall [ea]) hread

/-- A shift has an address, or is in Accumulator mode and makes no bus access. -/
theorem shifting_accounted {f : Byte → State → Byte × State} (hr : shifting f row ops s = .ok (n, t))
    (hf : ∀ b s, (f b s).2.cpu.stall = s.cpu.stall) :
    (∃ ea, ops.operand = .address ea ∧ Accounted [ea] 0 s n t) ∨ (row.mode = .accumulator ∧ Accounted [] 0 s n t) := by
  unfold shifting at hr
  split at hr
  case h_1 hmode =>
    cases hr
    exact .inr ⟨hmode, rfl, hf _ _⟩
  all_goals exact .inl (modifying_accounted hr hf fun _ _ => rfl)

theorem pushing_accounted {f : State → Except Fault State} {sps : List Byte} (hr : pushing f row ops s = .ok (n, t))
    (hf : ∀ u, f s = .ok u → u.cpu.stall = s.cpu.stall) : Accounted (sps.map stackSlot) 0 s n t := by
  obtain ⟨u, hu, ht⟩ := bind_ok hr
  cases ht
  exact ⟨rfl, by rw [dmaStall_stackSlots]; exact hf _ hu⟩

theorem jmpRoutine_accounted (hr : jmpRoutine row ops s = .ok (n, t)) : Accounted [] 0 s n t := by
  obtain ⟨ea, _, ht⟩ := bind_ok hr
  cases ht
  exact ⟨rfl, rfl⟩

theorem jsrRoutine_accounted {sps : List Byte} (hr : jsrRoutine row ops s = .ok (n, t)) :
    Accounted (sps.map stackSlot) 0 s n t := by
  obtain ⟨ea, _, hr⟩ := bind_ok hr
  obtain ⟨u, hu, ht⟩ := bind_ok hr
  cases ht
  exact ⟨rfl, by rw [dmaStall_stackSlots]; exact (push16_stall hu : u.cpu.stall = s.cpu.stall)⟩

theorem tasRoutine_accounted (hr : tasRoutine row ops s = .ok (n, t)) :
    ∃ ea, ops.operand = .address ea ∧
      Accounted [storeHiAddress ops.pageCrossed (s.cpu.a &&& s.cpu.x) s.cpu.y ea] 0 s n t := by
  obtain ⟨ea, hea, h⟩ := storeHi_accounted hr
  exact ⟨ea, hea, h.extra, h.stall⟩

end

/-- The routine of an instruction's mnemonic, by its shape. -/
theorem routineOf_accounted {i : Instr} {s t : State} {n : Nat}
    (hr : routineOf i.row.mnemonic i.row (operandsAt i s) (resolvedAt i s) = .ok (n, t)) :
    Accounted (writtenAddresses i s) (executionExtraAt i s) (resolvedAt i s) n t := by
  have hcpu := resolvedAt_cpu i s
  have hoperand := operandsAt_operand i s
  unfold writtenAddresses executionExtraAt
  generalize i.row.mnemonic = m at hr ⊢
  cases m <;> dsimp only [routineOf, branchCondition] at hr ⊢
  case lda | ldx | ldy | lax | las | and | ora | eor | adc | sbc | cmp | cpx | cpy | bit =>
    exact reading_accounted hr fun _ _ => rfl
  case anc | alr | arr | axs | xaa | lxa => exact immediateOnly_accounted hr fun _ _ => rfl
  case tax | tay | tsx | txa | txs | tya | inx | iny | dex | dey | clc | cld | cli | clv | sec | sed | sei | nop | kil =>
    exact registers_accounted hr fun _ => rfl
  case pla | plp => exact registers_accounted hr fun s => by rw [pull8_eq]; rfl
  case rts => exact registers_accounted hr fun s => by rw [pull16_eq]; rfl
  case rti => exact registers_accounted hr fun s => by rw [returnFromInterrupt_eq]
  case bcc | bcs | beq | bmi | bne | bpl | bvc | bvs => simpa only [hcpu] using branching_accounted hr
  case jmp => exact jmpRoutine_accounted hr
  case sta | stx | sty | sax =>
    obtain ⟨ea, hea, h⟩ := storing_accounted hr
    simpa only [hea] using h
  case inc | dec | dcp | isb | slo | rla | sre | rra =>
    obtain ⟨ea, hea, h⟩ := modifying_accounted hr (fun _ _ => rfl) fun _ _ => rfl
    simpa only [hea] using h
  case asl | lsr | rol | ror =>
    obtain ⟨ea, hea, h⟩ | ⟨hmode, h⟩ := shifting_accounted hr fun _ _ => rfl
    · simpa only [hea] using h
    · rw [hmode] at hoperand
      have hnone : (operandsAt i s).operand = .none := hoperand
      simpa only [hnone] using h
  case ahx | shy | shx =>
    obtain ⟨ea, hea, h⟩ := storeHi_accounted hr
    simpa only [hea, hcpu] using h
  case tas =>
    obtain ⟨ea, hea, h⟩ := tasRoutine_accounted hr
    simpa only [hea, hcpu] using h
  case pha | php => exact pushing_accounted (sps := [s.cpu.sp]) hr fun _ => push8_stall
  case jsr => exact jsrRoutine_accounted (sps := [s.cpu.sp, s.cpu.sp - 1#8]) hr
  case brk => exact pushing_accounted (sps := [s.cpu.sp, s.cpu.sp - 1#8, s.cpu.sp - 2#8]) hr fun _ => brk_stall

/-! ### The bounds of the cost (R471) -/

theorem baseCycles_bounds (i : Instr) (h : i.row.mnemonic ≠ .kil) : 2 ≤ i.row.baseCycles ∧
    i.row.baseCycles + (if i.row.pagePenalty then 1 else 0) + (if (branchCondition i.row.mnemonic).isSome then 2 else 0) ≤ 8 := by
  cases i <;> simp [Instr.row, branchCondition] at h ⊢

theorem addressingExtra_le (row : Row) (ops : Operands) : addressingExtra row ops ≤ if row.pagePenalty then 1 else 0 := by
  unfold addressingExtra
  cases ops.pageCrossed <;> simp

theorem executionExtraAt_le (i : Instr) (s : State) :
    executionExtraAt i s ≤ if (branchCondition i.row.mnemonic).isSome then 2 else 0 := by
  unfold executionExtraAt
  cases branchCondition i.row.mnemonic with
  | none => simp
  | some branch =>
    simp only [Option.isSome_some, if_true]
    split_ifs <;> omega

theorem cost_bounds {i : Instr} (h : i.row.mnemonic ≠ .kil) (s : State) :
    2 ≤ cost i.row (operandsAt i s) (executionExtraAt i s) ∧ cost i.row (operandsAt i s) (executionExtraAt i s) ≤ 8 := by
  obtain ⟨hlo, hhi⟩ := baseCycles_bounds i h
  have haddressing := addressingExtra_le i.row (operandsAt i s)
  have hexecution := executionExtraAt_le i s
  unfold cost
  omega

/-- A halt slot completes in no state (R293). -/
theorem mnemonic_ne_kil_of_exec_next {i : Instr} {s t : State} (he : exec i s = .next t) : i.row.mnemonic ≠ .kil := by
  intro hkil
  rw [exec_of_halt i s ((tier_eq_halt_iff i).2 hkil)] at he
  cases he

/-- Settles O30: the routine accounts for the extra cycles and the DMA; `execute` adds the cost less one. -/
theorem stallAccounting : Obligations.StallAccounting := by
  intro i s t he c hc
  have hcost : c = cost i.row (operandsAt i s) (executionExtraAt i s) := by
    rw [hc, cost, addressingExtra]
    simp only [Bool.and_eq_true]
  obtain ⟨hlo, hhi⟩ := cost_bounds (mnemonic_ne_kil_of_exec_next he) s
  obtain ⟨n, u, hr, rfl⟩ := exec_next he
  obtain ⟨rfl, hroutine⟩ := routineOf_accounted hr
  have hstall : u.cpu.stall = s.cpu.stall + dmaStall (writtenAddresses i s) := by rw [hroutine, resolvedAt_cpu]
  rw [← hcost] at hlo hhi ⊢
  refine ⟨hlo, hhi, ?_⟩
  have htotal : (u.addStall (c - 1)).cpu.stall = u.cpu.stall + (c - 1) := rfl
  rw [htotal, hstall, dmaStall]
  omega

end Sys2Proof.Machine
end

section
/-! PROOFS of the load, store and transfer family. An instruction ends as its routine does; the routine of a load is one read, that of a
store one write, that of a transfer a change of registers. -/

namespace Sys2Proof.Machine

/-! ### What the table says of a mnemonic: its tier and its modes -/

/-- The mnemonics of tier 3, which execute under `ADMIT_TIER3` alone (R281). -/
def gatedMnemonics : List Mnemonic := [.anc, .alr, .arr, .axs, .las, .xaa, .lxa, .ahx, .shy, .shx, .tas]

/-- The mnemonics that read an operand value `M` (R153) and write no memory. -/
def valueMnemonics : List Mnemonic :=
  [.lda, .ldx, .ldy, .lax, .las, .and, .ora, .eor, .adc, .sbc, .cmp, .cpx, .cpy, .bit]

/-- The mnemonics that take an address in every mode they have. The shifts, which have Accumulator mode too, are not among them. -/
def addressMnemonics : List Mnemonic :=
  [.sta, .stx, .sty, .sax, .inc, .dec, .dcp, .isb, .slo, .rla, .sre, .rra, .ahx, .shy, .shx, .tas, .jmp, .jsr,
    .bcc, .bcs, .beq, .bmi, .bne, .bpl, .bvc, .bvs]

/-- The modes that resolve to an address (R143 to R152). -/
def addressModes : List Mode :=
  [.zeroPage, .zeroPageX, .zeroPageY, .relative, .absolute, .absoluteX, .absoluteY, .indirect, .indexedIndirect, .indirectIndexed]

theorem tier_of_mnemonic (i : Instr) :
    i.row.mnemonic ∈ .kil :: gatedMnemonics ∨ i.row.tier = .official ∨ i.row.tier = .normative := by
  cases i <;> simp only [Instr.row] <;> decide

theorem mode_of_valueMnemonic (i : Instr) : i.row.mnemonic ∈ valueMnemonics → i.row.mode ∈ .immediate :: addressModes := by
  cases i <;> simp only [Instr.row] <;> decide

theorem mode_of_addressMnemonic (i : Instr) : i.row.mnemonic ∈ addressMnemonics → i.row.mode ∈ addressModes := by
  cases i <;> simp only [Instr.row] <;> decide

/-- A mode of `addressModes` resolves to an address. -/
theorem exists_address_of_resolvesTo {mode : Mode} {r : Resolved} (h : Mode.resolvesTo mode r) (hmode : mode ∈ addressModes) :
    ∃ ea, r = .address ea := by
  cases mode
  case none | implied | accumulator | immediate => exact absurd hmode (by decide)
  all_goals exact h

section
variable {i : Instr} {s : State} {m : Mnemonic}

/-- A row of tier 1 or 2 executes whatever the parameters are (R104, R131). -/
theorem rowExecutes_of_mnemonic (h : i.row.mnemonic = m) (params : Params) (hm : m ∉ .kil :: gatedMnemonics := by decide) :
    rowExecutes i.row params = true := by
  unfold rowExecutes
  rcases tier_of_mnemonic i with hgated | htier | htier
  · exact absurd (h ▸ hgated) hm
  all_goals rw [htier]

theorem operand_ne_none_of_mnemonic (hm : i.row.mnemonic ∈ valueMnemonics) (s : State) : (operandsAt i s).operand ≠ .none := by
  have hresolves := operandsAt_operand i s
  rcases List.mem_cons.1 (mode_of_valueMnemonic i hm) with hmode | hmode
  · rw [hmode] at hresolves
    obtain ⟨b, hb⟩ := hresolves
    simp [hb]
  · obtain ⟨ea, hea⟩ := exists_address_of_resolvesTo hresolves hmode
    simp [hea]

theorem exists_address_of_mnemonic (hm : i.row.mnemonic ∈ addressMnemonics) (s : State) :
    ∃ ea, (operandsAt i s).operand = .address ea :=
  exists_address_of_resolvesTo (operandsAt_operand i s) (mode_of_addressMnemonic i hm)

/-! ### From the outcome of a routine to that of the instruction (R131, R156) -/

theorem exec_of_routine_ok {n : Nat} {t : State} (hrow : rowExecutes i.row s.params = true)
    (hr : routineOf i.row.mnemonic i.row (operandsAt i s) (resolvedAt i s) = .ok (n, t)) :
    exec i s = .next (t.addStall (cost i.row (operandsAt i s) n - 1)) := by
  rw [exec_eq_execute, execute_eq i _ s hrow, hr]

theorem exec_of_routine_error {f : Fault} (hrow : rowExecutes i.row s.params = true)
    (hr : routineOf i.row.mnemonic i.row (operandsAt i s) (resolvedAt i s) = .error f) : exec i s = .fault f := by
  rw [exec_eq_execute, execute_eq i _ s hrow, hr]

variable {w : State} {c : Cpu} {p : Byte} {extra : Nat} {flags : Flag → Option Bool}

theorem completesWith_of_routine (hrow : rowExecutes i.row s.params = true)
    (hr : routineOf i.row.mnemonic i.row (operandsAt i s) (resolvedAt i s) =
      .ok (extra, { w with cpu := { c with p := p, stall := w.cpu.stall } }))
    (hp : ∀ f, getFlag p f = (flags f).getD (getFlag s.cpu.p f)) : CompletesWith i s w c extra flags :=
  ⟨p, exec_of_routine_ok hrow hr, hp⟩

/-! ### The shapes of the routines -/

/-- The reads of the resolver and of the operand change no register but the PC, which the fetch passes on. -/
theorem operandReadAt_withCpu (i : Instr) (s : State) :
    operandReadAt i s = { operandReadAt i s with cpu := fetchedCpu i s } :=
  congrArg (fun c : Cpu => ({ operandReadAt i s with cpu := c } : State)) (operandReadAt_cpu i s)

theorem resolvedAt_withCpu (i : Instr) (s : State) : resolvedAt i s = { resolvedAt i s with cpu := fetchedCpu i s } :=
  congrArg (fun c : Cpu => ({ resolvedAt i s with cpu := c } : State)) (resolvedAt_cpu i s)

/-- An instruction that reads `M` completes with what its rule makes of `M` and the fetched registers. -/
theorem completesWith_of_reading {f : Byte → State → State} (h : i.row.mnemonic = m) (hrow : rowExecutes i.row s.params = true)
    (hr : routineOf m = reading f)
    (hf : ∀ w : State, f (operandValueAt i s) { w with cpu := fetchedCpu i s } =
      { w with cpu := { c with p := p, stall := s.cpu.stall } })
    (hp : ∀ f, getFlag p f = (flags f).getD (getFlag s.cpu.p f)) (hm : m ∈ valueMnemonics := by decide) :
    CompletesWith i s (operandReadAt i s) c 0 flags := by
  have hstall : (operandReadAt i s).cpu.stall = s.cpu.stall := by rw [operandReadAt_cpu]
  refine completesWith_of_routine hrow ?_ hp
  rw [h, hr, reading_eq i s (operand_ne_none_of_mnemonic (h ▸ hm) s), operandReadAt_withCpu, hf, ← operandReadAt_withCpu, hstall]

/-- An instruction on registers alone completes with what its rule makes of the fetched registers. -/
theorem completesWith_of_registers {f : State → State} (hrow : rowExecutes i.row s.params = true)
    (hr : routineOf i.row.mnemonic = registers f)
    (hf : f (resolvedAt i s) = { w with cpu := { c with p := p, stall := w.cpu.stall } })
    (hp : ∀ f, getFlag p f = (flags f).getD (getFlag s.cpu.p f)) : CompletesWith i s w c 0 flags := by
  refine completesWith_of_routine hrow ?_ hp
  rw [hr, registers, hf]

/-- An instruction that ends as its write does; without ROM faults the write succeeds (R62). -/
theorem completesStoring_of_outcomes {before : State} {addr : Word} {b : Byte}
    (hok : ∀ t, memWrite addr b before = .ok t → CompletesWith i s t c 0 flags)
    (herror : ∀ f, memWrite addr b before = .error f → exec i s = .fault f) (hparams : before.params = s.params) :
    CompletesStoring i s before addr b c flags := by
  refine ⟨hok, herror, fun hignore => ?_⟩
  obtain ⟨t, ht⟩ := memWrite_ignore (hparams ▸ hignore) addr b
  exact ⟨t, ht, hok t ht⟩

/-- A write right after the resolver leaves the fetched registers, but for the stall of a DMA. -/
theorem memWrite_resolvedAt_withCpu {addr : Word} {b : Byte} {t : State} (ht : memWrite addr b (resolvedAt i s) = .ok t) :
    t = { t with cpu := { fetchedCpu i s with stall := t.cpu.stall } } := by
  obtain ⟨hcpu, -⟩ := memWrite_frame ht
  rw [resolvedAt_cpu] at hcpu
  exact congrArg (fun c : Cpu => ({ t with cpu := c } : State)) hcpu

/-- A store writes its byte, computed from the fetched registers, at the resolved address, which it does not read (R153). -/
theorem completesStoring_of_storing {v : State → Byte} {b : Byte} (h : i.row.mnemonic = m)
    (hrow : rowExecutes i.row s.params = true) (hr : routineOf m = storing v)
    (hv : ∀ w : State, v { w with cpu := fetchedCpu i s } = b) (hm : m ∈ addressMnemonics := by decide) :
    ∃ ea, (operandsAt i s).operand = .address ea ∧ CompletesStoring i s (resolvedAt i s) ea b (fetchedCpu i s) noFlags := by
  obtain ⟨ea, hea⟩ := exists_address_of_mnemonic (h ▸ hm) s
  have hb : v (resolvedAt i s) = b := (congrArg v (resolvedAt_withCpu i s)).trans (hv _)
  have hroutine := storing_eq (v := v) i s hea
  rw [← hr, ← h, hb] at hroutine
  refine ⟨ea, hea, completesStoring_of_outcomes (fun t ht => ?ok) (fun f hf => ?error) (resolvedAt_params i s)⟩
  case ok =>
    rw [ht] at hroutine
    refine completesWith_of_routine (p := s.cpu.p) hrow ?_ fun _ => rfl
    exact hroutine.trans (congrArg (fun u => Except.ok (0, u)) (memWrite_resolvedAt_withCpu ht))
  case error =>
    rw [hf] at hroutine
    exact exec_of_routine_error hrow hroutine

end

/-! ### The obligations -/

/-- Settles O7: a load reads `M`, writes it to its registers and sets Z and N from it. -/
theorem loadsComplete : Obligations.LoadsComplete := by
  intro i s
  refine ⟨fun h => ?lda, fun h => ?ldx, fun h => ?ldy, fun h => ?lax⟩
  case lda | ldx | ldy | lax =>
    exact completesWith_of_reading h (rowExecutes_of_mnemonic h _) (by dsimp only [routineOf]; rfl) (fun _ => by rfl)
      (getFlag_flagsZN _ _)

/-- Settles O8: a store ends as its one write does. -/
theorem storesComplete : Obligations.StoresComplete := by
  intro i s b hmem
  simp only [List.mem_cons, Prod.mk.injEq, List.not_mem_nil, or_false] at hmem
  obtain ⟨h, rfl⟩ | ⟨h, rfl⟩ | ⟨h, rfl⟩ | ⟨h, rfl⟩ := hmem <;>
    exact completesStoring_of_storing h (rowExecutes_of_mnemonic h _) (by dsimp only [routineOf]; rfl) fun _ => by rfl

/-- Settles O9: a transfer copies one register; all but `TXS` set Z and N from it (R180). -/
theorem transfersComplete : Obligations.TransfersComplete := by
  intro s
  refine ⟨?tax, ?tay, ?tsx, ?txa, ?txs, ?tya⟩
  case tax | tay | tsx | txa | tya => exact completesWith_of_registers rfl rfl rfl (getFlag_flagsZN _ _)
  case txs => exact completesWith_of_registers rfl rfl rfl fun _ => rfl

end Sys2Proof.Machine
end

section
/-! PROOFS of the arithmetic and logic family. Subtraction is the addition of the complement; a read-modify-write instruction ends as
its one write does. -/

namespace Sys2Proof.Machine

/-! ### The sum with carry (R190) -/

/-- The carries out of bits 6 and 7 differ exactly when the signed sum leaves the range of a byte (R190). -/
theorem carry6_xor_carry7 (a m : Byte) (c : Bool) :
    (carry6 a m c ^^ carry7 a m c) =
      (decide (a.toInt + m.toInt + c.toNat < -128) || decide (127 < a.toInt + m.toInt + c.toNat)) := by
  have ha := a.isLt
  have hm := m.isLt
  have hc := c.toNat_le
  rw [Bool.eq_iff_iff, carry6, carry7, BitVec.toInt_eq_toNat_cond, BitVec.toInt_eq_toNat_cond]
  simp only [bne_iff_ne, ne_eq, decide_eq_decide, Bool.or_eq_true, decide_eq_true_eq]
  split <;> split <;> omega

theorem addOf_v (a m : Byte) (c : Bool) : addOf a m c .v =
    some (decide (a.toInt + m.toInt + c.toNat < -128) || decide (127 < a.toInt + m.toInt + c.toNat)) :=
  congrArg some (carry6_xor_carry7 a m c)

theorem getFlag_flagsAdd_eq_addOf (p a m : Byte) (f : Flag) :
    getFlag (flagsAdd p a m) f = (addOf a m (getFlag p .c) f).getD (getFlag p f) := by
  cases f <;> simp [addOf, addResult, sumOf, carry6, carry7]

/-! ### The difference with borrow, as the sum with the complement (R193) -/

theorem toNat_complement (m : Byte) : (m ^^^ 0xFF#8).toNat = 255 - m.toNat := by
  rw [show m ^^^ 0xFF#8 = ~~~m from BitVec.xor_allOnes, BitVec.toNat_not]

theorem toInt_complement (m : Byte) : (m ^^^ 0xFF#8).toInt = -m.toInt - 1 := by
  rw [BitVec.toInt_eq_toNat_cond, BitVec.toInt_eq_toNat_cond, toNat_complement]
  split <;> split <;> omega

theorem sumOf_complement (a m : Byte) (c : Bool) : sumOf a (m ^^^ 0xFF#8) c = differenceOf a m c := by
  rw [sumOf, toNat_complement]
  cases c <;> simp only [differenceOf, Bool.false_eq_true, if_true, if_false] <;> bv_omega

/-- The flags of `A + (M xor 0xFF) + C` are those of `A - M - (1 - C)`: a carry out is a borrow that did not occur. -/
theorem addOf_complement (a m : Byte) (c : Bool) (f : Flag) : addOf a (m ^^^ 0xFF#8) c f = subOf a m c f := by
  cases f
  case c =>
    have hm := m.isLt
    have hc := c.toNat_le
    simp only [addOf, subOf, toNat_complement, Option.some_inj, decide_eq_decide]
    omega
  case v =>
    have hsum : a.toInt + (m ^^^ 0xFF#8).toInt + c.toNat = a.toInt - m.toInt - (1 - (c.toNat : Int)) := by
      rw [toInt_complement]
      omega
    rw [addOf_v, hsum, subOf]
  case z | n => simp only [addOf, subOf, sumOf_complement]
  case i | d | b | u => rfl

/-! ### The flags of a comparison (R197) -/

theorem getFlag_flagsCompare_eq_cmpOf (p r m : Byte) (f : Flag) :
    getFlag (flagsCompare p r m) f = (cmpOf r m f).getD (getFlag p f) := by
  cases f <;> simp [cmpOf, BitVec.le_def, beq_eq_decide]

/-! ### The shape of a read-modify-write instruction (R153, R155) -/

/-- A status byte set before a write is the one found after it: the write neither reads nor changes it. -/
theorem memWrite_withP (addr : Word) (b q : Byte) (s : State) :
    memWrite addr b { s with cpu := { s.cpu with p := q } } =
      (memWrite addr b s).map fun t => { t with cpu := { s.cpu with p := q, stall := t.cpu.stall } } := by
  rw [memWrite_mapCpu addr b s (fun c => { c with p := q }) fun _ _ => rfl]
  cases ht : memWrite addr b s with
  | error e => rfl
  | ok t =>
    obtain ⟨hcpu, -⟩ := memWrite_frame ht
    exact congrArg (fun c : Cpu => Except.ok ({ t with cpu := { c with p := q } } : State)) hcpu

section
variable {i : Instr} {s : State} {c : Cpu} {p q r : Byte} {flags : Flag → Option Bool}

/-- An instruction that reads its address once, computes the byte `r` and the status byte `q`, writes `r` back once and makes the
rest of its result from `r`, ends as that write does. -/
theorem completesStoring_of_modifying {f : Byte → State → Byte × State} {g : Byte → State → State} {ea : Word}
    (hrow : rowExecutes i.row s.params = true) (hea : (operandsAt i s).operand = .address ea)
    (hr : routineOf i.row.mnemonic i.row (operandsAt i s) (resolvedAt i s) =
      modifying f g i.row (operandsAt i s) (resolvedAt i s))
    (hf : ∀ w : State, f (operandValueAt i s) { w with cpu := fetchedCpu i s } =
      (r, { w with cpu := { fetchedCpu i s with p := q } }))
    (hg : ∀ w : State, g r { w with cpu := { fetchedCpu i s with p := q, stall := w.cpu.stall } } =
      { w with cpu := { c with p := p, stall := w.cpu.stall } })
    (hp : ∀ f, getFlag p f = (flags f).getD (getFlag s.cpu.p f)) :
    CompletesStoring i s (operandReadAt i s) ea r c flags := by
  have hmodify : f (operandValueAt i s) (operandReadAt i s) =
      (r, { operandReadAt i s with cpu := { (operandReadAt i s).cpu with p := q } }) := by
    rw [operandReadAt_cpu]
    exact (congrArg _ (operandReadAt_withCpu i s)).trans (hf _)
  rw [modifying_eq i s hea, hmodify, memWrite_withP, operandReadAt_cpu] at hr
  refine completesStoring_of_outcomes (fun t ht => ?ok) (fun e he => ?error) (operandReadAt_params i s)
  case ok =>
    rw [ht] at hr
    exact completesWith_of_routine hrow (hr.trans (congrArg (fun u => Except.ok (0, u)) (hg t))) hp
  case error =>
    rw [he] at hr
    exact exec_of_routine_error hrow hr

end

/-! ### The obligations -/

/-- Settles O10: `SBC` is the addition of the complement, whose carry says that no borrow occurred; the carries out of bits 6 and 7 differ
exactly on signed overflow. -/
theorem addAndSubtractComplete : Obligations.AddAndSubtractComplete := by
  refine ⟨fun i s => ⟨fun h => ?adc, fun h => ?sbc⟩, fun a m c => ?overflow⟩
  case adc =>
    exact completesWith_of_reading h (rowExecutes_of_mnemonic h _) (by dsimp only [routineOf]; rfl) (fun _ => by rfl)
      (getFlag_flagsAdd_eq_addOf _ _ _)
  case sbc =>
    refine completesWith_of_reading (p := flagsAdd s.cpu.p s.cpu.a (operandValueAt i s ^^^ 0xFF#8)) h
      (rowExecutes_of_mnemonic h _) (by dsimp only [routineOf]; rfl) (fun _ => ?state) (fun f => ?flags)
    case state =>
      rw [← sumOf_complement]
      rfl
    case flags => rw [getFlag_flagsAdd_eq_addOf, addOf_complement]
  case overflow => exact addOf_v a m c

/-- Settles O11: the result goes to A, and Z and N follow it. -/
theorem logicCompletes : Obligations.LogicCompletes := by
  intro i s r hmem
  simp only [List.mem_cons, Prod.mk.injEq, List.not_mem_nil, or_false] at hmem
  obtain ⟨h, rfl⟩ | ⟨h, rfl⟩ | ⟨h, rfl⟩ := hmem <;>
    exact completesWith_of_reading h (rowExecutes_of_mnemonic h _) (by dsimp only [routineOf]; rfl) (fun _ => by rfl)
      (getFlag_flagsZN _ _)

/-- Settles O12: each writes the status byte alone. -/
theorem comparesComplete : Obligations.ComparesComplete := by
  intro i s
  refine ⟨fun r hmem => ?compare, fun h => ?bit⟩
  case compare =>
    simp only [List.mem_cons, Prod.mk.injEq, List.not_mem_nil, or_false] at hmem
    obtain ⟨h, rfl⟩ | ⟨h, rfl⟩ | ⟨h, rfl⟩ := hmem <;>
      exact completesWith_of_reading h (rowExecutes_of_mnemonic h _) (by dsimp only [routineOf]; rfl) (fun _ => by rfl)
        (getFlag_flagsCompare_eq_cmpOf _ _ _)
  case bit =>
    refine completesWith_of_reading (p := flagsBit s.cpu.p s.cpu.a (operandValueAt i s)) h (rowExecutes_of_mnemonic h _)
      (by dsimp only [routineOf]; rfl) (fun _ => by rfl) fun f => ?_
    cases f <;> simp [bit, beq_eq_decide]

/-- Settles O13: the memory forms read and write one byte, the register forms change one register, and Z and N follow the result. -/
theorem incrementsComplete : Obligations.IncrementsComplete := by
  refine ⟨fun i s r hmem => ?memory, fun s => ⟨?inx, ?iny, ?dex, ?dey⟩⟩
  case memory =>
    simp only [List.mem_cons, Prod.mk.injEq, List.not_mem_nil, or_false] at hmem
    obtain ⟨h, rfl⟩ | ⟨h, rfl⟩ := hmem
    case inl | inr =>
      obtain ⟨ea, hea⟩ := exists_address_of_mnemonic (i := i) (by rw [h]; decide) s
      exact ⟨ea, hea, completesStoring_of_modifying (q := s.cpu.p) (rowExecutes_of_mnemonic h _) hea
        (by rw [h]; dsimp only [routineOf]; rfl) (fun _ => by rfl) (fun _ => by rfl) (getFlag_flagsZN _ _)⟩
  case inx | iny | dex | dey => exact completesWith_of_registers rfl rfl rfl (getFlag_flagsZN _ _)

end Sys2Proof.Machine
end

section
/-! PROOFS of the shift and rotate family. A shift is one function of a byte and the old carry, run on A or on memory. -/

namespace Sys2Proof.Machine

/-! ### Accumulator mode and the memory modes (R141, R220) -/

theorem mode_of_shifts (i : Instr) : i.row.mnemonic ∈ shifts → i.row.mode ∈ .accumulator :: addressModes := by
  cases i <;> simp only [Instr.row] <;> decide

/-- In Accumulator mode the resolver does nothing. -/
theorem resolvedAt_of_accumulator {i : Instr} (hmode : i.row.mode = .accumulator) (s : State) :
    resolvedAt i s = s.setPc (nextPc i s) := by
  rw [← mode_eq] at hmode
  unfold resolvedAt
  generalize i.operand = o at hmode
  cases o
  case accumulator => rfl
  all_goals cases hmode

theorem shifting_of_accumulator {f : Byte → State → Byte × State} {row : Row} (hmode : row.mode = .accumulator)
    (ops : Operands) (s : State) :
    shifting f row ops s = .ok (0, ((f s.cpu.a s).2.setA (f s.cpu.a s).1).setZN (f s.cpu.a s).1) := by
  unfold shifting
  rw [hmode]

theorem shifting_of_ne_accumulator {f : Byte → State → Byte × State} {row : Row} (hmode : row.mode ≠ .accumulator)
    (ops : Operands) (s : State) : shifting f row ops s = modifying f (fun r s => s.setZN r) row ops s := by
  unfold shifting
  split
  case h_1 hacc => exact absurd hacc hmode
  all_goals rfl

/-! ### The flags (R221 to R224) -/

/-- Z and N of a result, set after its carry. -/
theorem getFlag_flagsZN_setFlag_c (p r : Byte) (carry : Bool) (f : Flag) :
    getFlag (flagsZN (setFlag p .c carry) r) f = (cznOf carry r f).getD (getFlag p f) := by
  cases f <;> simp [cznOf, znOf]

/-- A carry that enters bit 7 (R224). -/
theorem boolByte_shiftLeft_seven (b : Bool) : boolByte b <<< 7 = if b then 0x80#8 else 0x00#8 := by cases b <;> rfl

/-! ### The shape of a shift (R220) -/

section
variable {i : Instr} {s : State} {m : Mnemonic} {f : Byte → State → Byte × State} {v r : Byte} {carry : Bool}

/-- In Accumulator mode the result goes to A, and no bus access is made. -/
theorem completesWith_of_shifting (hrow : rowExecutes i.row s.params = true) (hr : routineOf i.row.mnemonic = shifting f)
    (hf : f s.cpu.a (s.setPc (nextPc i s)) = (r, (s.setPc (nextPc i s)).setFlag .c carry))
    (hmode : i.row.mode = .accumulator) : CompletesWith i s s { fetchedCpu i s with a := r } 0 (cznOf carry r) := by
  refine completesWith_of_routine hrow ?_ (getFlag_flagsZN_setFlag_c s.cpu.p r carry)
  have ha : (s.setPc (nextPc i s)).cpu.a = s.cpu.a := rfl
  rw [hr, resolvedAt_of_accumulator hmode, shifting_of_accumulator hmode, ha, hf]
  rfl

/-- In the other modes a shift is a read-modify-write instruction. -/
theorem completesStoring_of_shifting (hshift : i.row.mnemonic ∈ shifts) (hrow : rowExecutes i.row s.params = true)
    (hr : routineOf i.row.mnemonic = shifting f)
    (hf : ∀ w : State, f (operandValueAt i s) { w with cpu := fetchedCpu i s } =
      (r, { w with cpu := { fetchedCpu i s with p := setFlag s.cpu.p .c carry } }))
    (hmode : i.row.mode ≠ .accumulator) : ∃ ea, (operandsAt i s).operand = .address ea ∧
      CompletesStoring i s (operandReadAt i s) ea r (fetchedCpu i s) (cznOf carry r) := by
  have haddress := (List.mem_cons.1 (mode_of_shifts i hshift)).resolve_left hmode
  obtain ⟨ea, hea⟩ := exists_address_of_resolvesTo (operandsAt_operand i s) haddress
  exact ⟨ea, hea, completesStoring_of_modifying hrow hea (by rw [hr, shifting_of_ne_accumulator hmode]) hf (fun _ => by rfl)
    (getFlag_flagsZN_setFlag_c s.cpu.p r carry)⟩

/-- A shift that makes the result `r` and the carry of the value `v` completes on A and on memory alike. -/
theorem shift_completes (h : i.row.mnemonic = m) (hr : routineOf m = shifting f)
    (hv : v = if i.row.mode = .accumulator then s.cpu.a else operandValueAt i s)
    (hf : ∀ w : State, w.flag .c = getFlag s.cpu.p .c → f v w = (r, w.setFlag .c carry)) (hm : m ∈ shifts := by decide)
    (hgate : m ∉ .kil :: gatedMnemonics := by decide) :
    (i.row.mode = .accumulator → CompletesWith i s s { fetchedCpu i s with a := r } 0 (cznOf carry r)) ∧
    (i.row.mode ≠ .accumulator → ∃ ea, (operandsAt i s).operand = .address ea ∧
      CompletesStoring i s (operandReadAt i s) ea r (fetchedCpu i s) (cznOf carry r)) := by
  subst h
  have hrow := rowExecutes_of_mnemonic rfl s.params hgate
  refine ⟨fun hmode => ?accumulator, fun hmode => ?memory⟩
  case accumulator =>
    rw [if_pos hmode] at hv
    exact completesWith_of_shifting hrow hr (hv ▸ hf _ rfl) hmode
  case memory =>
    rw [if_neg hmode] at hv
    exact completesStoring_of_shifting hm hrow hr (fun _ => hv ▸ hf _ rfl) hmode

end

/-! ### The obligation -/

/-- Settles O14: each of the four is one function of the value and the old carry, and the shape of a shift does the rest. -/
theorem shiftsComplete : Obligations.ShiftsComplete := by
  intro i s v r carry hv hmem
  simp only [List.mem_cons, Prod.mk.injEq, List.not_mem_nil, or_false] at hmem
  obtain ⟨h, rfl, rfl⟩ | ⟨h, rfl, rfl⟩ | ⟨h, rfl, rfl⟩ | ⟨h, rfl, rfl⟩ := hmem
  case inl => exact shift_completes (f := shiftLeft) h rfl hv fun _ _ => rfl
  case inr.inl => exact shift_completes (f := shiftRight) h rfl hv fun _ _ => rfl
  case inr.inr.inl =>
    refine shift_completes (f := rotateLeft) h rfl hv fun w hc => ?_
    rw [rotateLeft, hc]
    rfl
  case inr.inr.inr =>
    refine shift_completes (f := rotateRight) h rfl hv fun w hc => ?_
    rw [rotateRight, hc, boolByte_shiftLeft_seven]
    rfl

end Sys2Proof.Machine
end

section
/-! PROOFS of the control flow family. Every routine ends in a known outcome: a jump or branch moves the PC to the address that the
resolver gave, and the stack lies in RAM, so that pushes and pulls always succeed. -/

namespace Sys2Proof.Machine

/-! ### Jumps (R230) -/

theorem jmpRoutine_eq (i : Instr) (s : State) {ea : Word} (h : (operandsAt i s).operand = .address ea) :
    jmpRoutine i.row (operandsAt i s) (resolvedAt i s) = .ok (0, (resolvedAt i s).setPc ea) := by
  unfold jmpRoutine effectiveAddress
  rw [h]
  rfl

/-- Settles O15: the routine of `JMP` puts the resolved address in the PC. -/
theorem jumpsComplete : Obligations.JumpsComplete := by
  intro i s h
  obtain ⟨ea, hea⟩ := exists_address_of_mnemonic (by rw [h]; decide) s
  refine ⟨ea, hea, completesWith_of_routine (p := s.cpu.p) (rowExecutes_of_mnemonic h _) ?_ fun _ => rfl⟩
  rw [h, routineOf, jmpRoutine_eq i s hea, resolvedAt_withCpu]
  rfl

/-! ### Branches (R146, R235) -/

section
variable {i : Instr} {off : Byte} {f : Flag} {wanted : Bool}

theorem nextPc_of_relative (h : i.operand = .relative off) (s : State) : nextPc i s = s.cpu.pc + 2#16 := by
  rw [nextPc, length_eq, ← mode_eq, h]
  rfl

theorem resolvedAt_of_relative (h : i.operand = .relative off) (s : State) : resolvedAt i s = s.setPc (nextPc i s) := by
  rw [resolvedAt, h]
  rfl

theorem operandsAt_of_relative (h : i.operand = .relative off) (s : State) :
    operandsAt i s = ⟨[off], .address (relativeTarget (nextPc i s) off),
      pageDiffers (relativeTarget (nextPc i s) off) (nextPc i s)⟩ := by
  rw [operandsAt, h]
  rfl

/-- `Branch(cond)` moves the PC to the resolved address, or does nothing (R235). -/
theorem branching_eq (row : Row) (ops : Operands) (s : State) {ea : Word} (h : ops.operand = .address ea) :
    branching f wanted row ops s =
      if getFlag s.cpu.p f = wanted then .ok (1 + (if ops.pageCrossed then 1 else 0), s.setPc ea) else .ok (0, s) := by
  unfold branching effectiveAddress
  rw [h]
  rfl

/-- A branch on flag `f` completes by whether the flag has the wanted value, and its target's page by division (R154). -/
theorem completesWith_of_branching {s : State} {target : Word} (hrow : rowExecutes i.row s.params = true)
    (hr : routineOf i.row.mnemonic = branching f wanted) (hop : i.operand = .relative off)
    (htarget : target = s.cpu.pc + 2#16 + off.signExtend 16) :
    CompletesWith i s s (if getFlag s.cpu.p f = wanted then { s.cpu with pc := target } else { s.cpu with pc := s.cpu.pc + 2#16 })
      (if getFlag s.cpu.p f = wanted then 1 + (if target.toNat / 256 = (s.cpu.pc + 2#16).toNat / 256 then 0 else 1) else 0)
      noFlags := by
  refine completesWith_of_routine (p := s.cpu.p) hrow ?_ fun _ => rfl
  have hea : relativeTarget (nextPc i s) off = target := by rw [nextPc_of_relative hop, htarget, relativeTarget, sext8]
  rw [hr, operandsAt_of_relative hop, resolvedAt_of_relative hop, branching_eq _ _ _ rfl, hea, nextPc_of_relative hop,
    State.setPc_cpu_p]
  by_cases htaken : getFlag s.cpu.p f = wanted
  case pos =>
    simp only [if_pos htaken, pageDiffers_eq, decide_eq_true_eq, ite_not]
    rfl
  case neg =>
    simp only [if_neg htaken]
    rfl

end

/-- Settles O18: each of the eight is the shape of a branch on its flag. -/
theorem branchesComplete : Obligations.BranchesComplete := by
  intro off s i f wanted target hmem htarget
  simp only [List.mem_cons, Prod.mk.injEq, List.not_mem_nil, or_false] at hmem
  obtain ⟨rfl, rfl, rfl⟩ | ⟨rfl, rfl, rfl⟩ | ⟨rfl, rfl, rfl⟩ | ⟨rfl, rfl, rfl⟩ | ⟨rfl, rfl, rfl⟩ | ⟨rfl, rfl, rfl⟩ |
    ⟨rfl, rfl, rfl⟩ | ⟨rfl, rfl, rfl⟩ := hmem <;>
    exact completesWith_of_branching rfl rfl rfl htarget

/-! ### Subroutines (R231, R232) -/

/-- The two slots of a 16-bit push are distinct, so they give back the word pushed (R162, R163). -/
theorem ofBytes_of_pushed16 {m m' : Memory} {sp : Byte} {w : Word}
    (h : m' = Memory.write .ram (Memory.write .ram m (0x100 + sp.toNat) w.hi) (0x100 + (sp - 1#8).toNat) w.lo) :
    Word.ofBytes (Memory.read .ram m' (0x100 + sp.toNat)) (Memory.read .ram m' (0x100 + (sp - 1#8).toNat)) = w := by
  have hne : 0x100 + sp.toNat ≠ 0x100 + (sp - 1#8).toNat := by bv_omega
  rw [h, Memory.read_write, if_neg hne, Memory.read_write, if_pos rfl, Memory.read_write, if_pos rfl, Word.ofBytes_hi_lo]

theorem jsr_completes (target : Word) (s : State) : CompletesWith (.jsrAbs target) s
    { s with
      ram := Memory.write .ram (Memory.write .ram s.ram (0x100 + s.cpu.sp.toNat) (s.cpu.pc + 2#16).hi)
        (0x100 + (s.cpu.sp - 1#8).toNat) (s.cpu.pc + 2#16).lo }
    { s.cpu with pc := target, sp := s.cpu.sp - 2#8 } 0 noFlags := by
  refine completesWith_of_routine (p := s.cpu.p) rfl ?_ fun _ => rfl
  have hreturn : (resolvedAt (.jsrAbs target) s).cpu.pc - 1#16 = s.cpu.pc + 2#16 := add_sub_assoc s.cpu.pc 3#16 1#16
  show jsrRoutine _ _ _ = _
  unfold jsrRoutine
  rw [hreturn, push16_eq, sub_sub]
  rfl

theorem rts_completes (s : State) : CompletesWith .rts s s
    { s.cpu with
      pc := Word.ofBytes (Memory.read .ram s.ram (0x100 + (s.cpu.sp + 2#8).toNat))
        (Memory.read .ram s.ram (0x100 + (s.cpu.sp + 1#8).toNat)) + 1#16
      sp := s.cpu.sp + 2#8 } 0 noFlags := by
  refine completesWith_of_registers (p := s.cpu.p) rfl rfl ?_ fun _ => rfl
  rw [pull16_eq, add_assoc]
  rfl

/-- The next state of an instruction that completes, in the fields that a return reads. -/
theorem CompletesWith.fields_of_next {i : Instr} {s w t : State} {c : Cpu} {extra : Nat} {flags : Flag → Option Bool}
    (h : CompletesWith i s w c extra flags) (he : exec i s = .next t) : t.ram = w.ram ∧ t.cpu.sp = c.sp ∧ t.cpu.pc = c.pc := by
  obtain ⟨p, hexec, -⟩ := h
  cases hexec.symm.trans he
  exact ⟨rfl, rfl, rfl⟩

/-- Settles O16: `RTS` pulls the word that `JSR` pushed, and goes one past it. -/
theorem subroutinesCompleteAndReturn : Obligations.SubroutinesCompleteAndReturn := by
  refine ⟨jsr_completes, rts_completes, fun target s t u v hjsr hram hsp hrts => ?_⟩
  obtain ⟨htram, htsp, -⟩ := (jsr_completes target s).fields_of_next hjsr
  obtain ⟨-, hvsp, hvpc⟩ := (rts_completes u).fields_of_next hrts
  have hsp2 : u.cpu.sp + 2#8 = s.cpu.sp := by rw [hsp, htsp]; exact sub_add_cancel ..
  have hsp1 : u.cpu.sp + 1#8 = s.cpu.sp - 1#8 := by rw [← hsp2]; exact (add_sub_assoc u.cpu.sp 2#8 1#8).symm
  refine ⟨?pc, hvsp.trans hsp2⟩
  case pc =>
    rw [hvpc]
    dsimp only
    rw [hsp2, hsp1, ofBytes_of_pushed16 (hram.trans htram)]
    exact add_assoc s.cpu.pc 2#16 1#16

/-! ### The software interrupt and its return (R233, R234) -/

/-- One flag set or cleared. -/
theorem getFlag_setFlag_eq_onlyFlag (p : Byte) (g : Flag) (on : Bool) (f : Flag) :
    getFlag (setFlag p g on) f = (onlyFlag g on f).getD (getFlag p f) := by
  rcases eq_or_ne g f with rfl | h
  case inl => simp [onlyFlag]
  case inr => simp [onlyFlag, h.symm]

/-- An instruction that pushes or takes an interrupt completes with what its rule makes of the fetched registers. -/
theorem completesWith_of_pushing {i : Instr} {s w : State} {c : Cpu} {p : Byte} {flags : Flag → Option Bool}
    {f : State → Except Fault State} (hrow : rowExecutes i.row s.params = true) (hr : routineOf i.row.mnemonic = pushing f)
    (hf : f (resolvedAt i s) = .ok { w with cpu := { c with p := p, stall := w.cpu.stall } })
    (hp : ∀ f, getFlag p f = (flags f).getD (getFlag s.cpu.p f)) : CompletesWith i s w c 0 flags := by
  refine completesWith_of_routine hrow ?_ hp
  rw [hr, pushing, hf]
  rfl

/-- Settles O17: the software interrupt and its return end as the shared operations on the stack do. -/
theorem breakAndReturnComplete : Obligations.BreakAndReturnComplete := by
  intro s
  refine ⟨completesWith_of_pushing (p := setFlag s.cpu.p .i true) rfl rfl ?brk (getFlag_setFlag_eq_onlyFlag _ _ _),
    completesWith_of_registers (p := restoredStatus (Memory.read .ram s.ram (0x100 + (s.cpu.sp + 1#8).toNat))) rfl rfl ?rti
      fun f => ?restored⟩
  case brk =>
    obtain ⟨-, -, -, -, hlo, hhi⟩ := cpuDecode_vectors
    have hreturn : (resolvedAt .brk s).cpu.pc + 1#16 = s.cpu.pc + 2#16 := add_assoc s.cpu.pc 1#16 1#16
    refine (takeInterrupt_eq hlo hhi _ _ _).trans ?_
    rw [hreturn, memRead_of_prg (addr := 0xFFFE#16) hlo, memRead_of_prg (addr := 0xFFFF#16) hhi]
    simp only [sub_sub]
    rfl
  case rti =>
    rw [returnFromInterrupt_eq]
    simp only [add_assoc]
    rfl
  case restored =>
    rw [getFlag_restoredStatus]
    cases f <;> rfl

end Sys2Proof.Machine
end

section
/-! PROOFS of the stack, flag and no-operation family. A stack or flag instruction is one change of the fetched registers, and a push
writes its slot of page 1 besides; a `NOP` ends where the resolver leaves it, and none of its modes reads a pointer. -/

namespace Sys2Proof.Machine

/-! ### The stack (R250 to R253) -/

/-- Settles O19: a push or a pull is one access to page 1, which is RAM. -/
theorem stackInstructionsComplete : Obligations.StackInstructionsComplete := by
  intro s pulled hpulled
  refine ⟨?pha, ?php, ?pla, ?plp⟩
  case pha | php => exact completesWith_of_pushing (p := s.cpu.p) rfl rfl (push8_eq _ _) fun _ => rfl
  case pla =>
    refine completesWith_of_registers rfl rfl ?_ (getFlag_flagsZN s.cpu.p pulled)
    rw [pull8_eq, hpulled]
    rfl
  case plp =>
    refine completesWith_of_registers (p := restoredStatus pulled) rfl rfl ?state fun f => ?restored
    case state =>
      rw [pull8_eq, hpulled]
      rfl
    case restored =>
      rw [getFlag_restoredStatus]
      cases f <;> rfl

/-! ### The flags (R254 to R260) -/

/-- Settles O20: each of the seven is `setFlag` of its flag. -/
theorem flagInstructionsComplete : Obligations.FlagInstructionsComplete := by
  intro s i f on hmem
  simp only [List.mem_cons, Prod.mk.injEq, List.not_mem_nil, or_false] at hmem
  obtain ⟨rfl, rfl, rfl⟩ | ⟨rfl, rfl, rfl⟩ | ⟨rfl, rfl, rfl⟩ | ⟨rfl, rfl, rfl⟩ | ⟨rfl, rfl, rfl⟩ | ⟨rfl, rfl, rfl⟩ |
    ⟨rfl, rfl, rfl⟩ := hmem <;>
    exact completesWith_of_registers rfl rfl rfl (getFlag_setFlag_eq_onlyFlag s.cpu.p _ _)

/-! ### The no-operations (R261, R271) -/

/-- The modes whose resolver reads a pointer from memory (R150 to R152). -/
def pointerModes : List Mode := [.indirect, .indexedIndirect, .indirectIndexed]

/-- Without a pointer the resolver makes no bus access. -/
theorem resolve_state_of_no_pointer (o : Operand) (h : o.mode ∉ pointerModes) (s : State) : (resolve o s).2 = s := by
  cases o with
  | indirect | indexedIndirect | indirectIndexed => exact absurd h (by dsimp only [Operand.mode]; decide)
  | none | implied | accumulator | immediate | zeroPage | zeroPageX | zeroPageY | relative | absolute | absoluteX | absoluteY => rfl

theorem resolvedAt_of_no_pointer {i : Instr} (h : i.row.mode ∉ pointerModes) (s : State) :
    resolvedAt i s = s.setPc (nextPc i s) :=
  resolve_state_of_no_pointer _ (mode_eq i ▸ h) _

/-- No `NOP` reads a pointer (R261, R271). -/
theorem mode_of_nop (i : Instr) : i.row.mnemonic = .nop → i.row.mode ∉ pointerModes := by
  cases i <;> simp only [Instr.row] <;> decide

/-- Settles O21: the resolver of a `NOP` makes no bus access, and its routine does nothing. -/
theorem nopsComplete : Obligations.NopsComplete := by
  intro i s h
  refine completesWith_of_registers (f := id) (p := s.cpu.p) (rowExecutes_of_mnemonic h _) ?routine ?state fun _ => rfl
  case routine =>
    rw [h]
    rfl
  case state =>
    rw [resolvedAt_of_no_pointer (mode_of_nop i h)]
    rfl

end Sys2Proof.Machine
end

section
/-! PROOFS of the unofficial instructions: the fused read-modify-write forms, the gated opcodes with the gate open and closed, and the
halt slots. -/

namespace Sys2Proof.Machine

/-! ### The fused instructions (R275 to R280) -/

/-- The mnemonics that modify memory and then combine the result with A (R275 to R280). -/
def fusedMnemonics : List Mnemonic := [.dcp, .isb, .slo, .rla, .sre, .rra]

theorem address_and_gate_of_fused {m : Mnemonic} (hm : m ∈ fusedMnemonics) :
    m ∈ addressMnemonics ∧ m ∉ .kil :: gatedMnemonics := by
  revert m
  decide

/-- The sum that follows a rotation takes the rotation's carry, and its own carry replaces it (R280). -/
theorem getFlag_flagsAdd_setFlag_c (p a m : Byte) (carry : Bool) (f : Flag) :
    getFlag (flagsAdd (setFlag p .c carry) a m) f = (addOf a m carry f).getD (getFlag p f) := by
  rw [getFlag_flagsAdd_eq_addOf]
  cases f <;> simp [addOf]

/-- A fused instruction is a read-modify-write instruction in every mode, and executes whatever the parameters are. -/
theorem fused_completes {i : Instr} {s : State} {m : Mnemonic} {f : Byte → State → Byte × State} {g : Byte → State → State}
    {c : Cpu} {p q r : Byte} {flags : Flag → Option Bool} (h : i.row.mnemonic = m) (hr : routineOf m = modifying f g)
    (hf : ∀ w : State, f (operandValueAt i s) { w with cpu := fetchedCpu i s } =
      (r, { w with cpu := { fetchedCpu i s with p := q } }))
    (hg : ∀ w : State, g r { w with cpu := { fetchedCpu i s with p := q, stall := w.cpu.stall } } =
      { w with cpu := { c with p := p, stall := w.cpu.stall } })
    (hp : ∀ f, getFlag p f = (flags f).getD (getFlag s.cpu.p f)) (hm : m ∈ fusedMnemonics := by decide) :
    ∃ ea, (operandsAt i s).operand = .address ea ∧ CompletesStoring i s (operandReadAt i s) ea r c flags := by
  subst h
  obtain ⟨haddress, hgate⟩ := address_and_gate_of_fused hm
  obtain ⟨ea, hea⟩ := exists_address_of_mnemonic haddress s
  exact ⟨ea, hea, completesStoring_of_modifying (rowExecutes_of_mnemonic rfl _ hgate) hea (by rw [hr]) hf hg hp⟩

/-- Settles O22: each of the six is a step, a shift or a rotation of the byte in memory, and then an operation on A. -/
theorem fusedInstructionsComplete : Obligations.FusedInstructionsComplete := by
  intro i s m r a flags hvalue hmem
  subst hvalue
  simp only [List.mem_cons, Prod.mk.injEq, List.not_mem_nil, or_false] at hmem
  obtain ⟨h, rfl, rfl, rfl⟩ | ⟨h, rfl, rfl, rfl⟩ | ⟨h, rfl, rfl, rfl⟩ | ⟨h, rfl, rfl, rfl⟩ | ⟨h, rfl, rfl, rfl⟩ |
    ⟨h, rfl, rfl, rfl⟩ := hmem
  case inl => -- `DCP`
    exact fused_completes (q := s.cpu.p) h (by dsimp only [routineOf]; rfl) (fun _ => by rfl) (fun _ => by rfl)
      (getFlag_flagsCompare_eq_cmpOf _ _ _)
  case inr.inl => -- `ISB`: the subtraction is the addition of the complement
    refine fused_completes (q := s.cpu.p) (p := flagsAdd s.cpu.p s.cpu.a ((operandValueAt i s + 1#8) ^^^ 0xFF#8)) h
      (by dsimp only [routineOf]; rfl) (fun _ => by rfl) (fun _ => ?state) fun f => ?flags
    case state =>
      rw [← sumOf_complement]
      rfl
    case flags => rw [getFlag_flagsAdd_eq_addOf, addOf_complement]
  case inr.inr.inl | inr.inr.inr.inl => -- `SLO` and `RLA`
    exact fused_completes (q := setFlag s.cpu.p .c ((operandValueAt i s).getLsbD 7)) h (by dsimp only [routineOf]; rfl)
      (fun _ => by rfl) (fun _ => by rfl) (getFlag_flagsZN_setFlag_c _ _ _)
  case inr.inr.inr.inr.inl => -- `SRE`
    exact fused_completes (q := setFlag s.cpu.p .c ((operandValueAt i s).getLsbD 0)) h (by dsimp only [routineOf]; rfl)
      (fun _ => by rfl) (fun _ => by rfl) (getFlag_flagsZN_setFlag_c _ _ _)
  case inr.inr.inr.inr.inr => -- `RRA`: the addition reads the carry that the rotation set
    simp only [← boolByte_shiftLeft_seven]
    refine fused_completes (q := setFlag s.cpu.p .c ((operandValueAt i s).getLsbD 0)) h (by dsimp only [routineOf]; rfl)
      (fun _ => by rfl) (fun w => ?_) (getFlag_flagsAdd_setFlag_c _ _ _ _)
    simp only [State.addCore, State.flag_eq, getFlag_setFlag, if_true]
    rfl

/-! ### The gate (R281, R293, R411) -/

/-- With the gate open every instruction but a halt slot executes (R104, R281). -/
theorem rowExecutes_of_admitTier3 {i : Instr} {params : Params} (hopen : params.admitTier3 = true)
    (hkil : i.row.mnemonic ≠ .kil) : rowExecutes i.row params = true := by
  unfold rowExecutes
  cases htier : i.row.tier with
  | official | normative => rfl
  | gated => exact hopen
  | halt => exact absurd ((tier_eq_halt_iff i).1 htier) hkil

/-- The thirteen opcodes of tier 3 (R281). -/
def gatedOpcodes : List Byte :=
  [0x0B#8, 0x2B#8, 0x4B#8, 0x6B#8, 0x8B#8, 0xAB#8, 0xCB#8, 0x9F#8, 0x93#8, 0x9C#8, 0x9E#8, 0x9B#8, 0xBB#8]

theorem tier_of_gatedOpcode (i : Instr) : i.row.opcode ∈ gatedOpcodes → i.row.tier = .gated := by
  cases i <;> simp only [Instr.row] <;> decide

/-- Settles O25: the row of a gated opcode executes by the parameter alone. -/
theorem gatedOpcodesFault : Obligations.GatedOpcodesFault := by
  intro i s hopcode hclosed
  have hrow : rowExecutes i.row s.params = false := by
    rw [rowExecutes, tier_of_gatedOpcode i hopcode]
    exact hclosed
  rw [exec_eq_execute, execute_gated i _ s hrow]

/-- The twelve halt slots with their opcodes (R293). -/
def haltSlots : List (Instr × Byte) :=
  [(.kil02, 0x02#8), (.kil12, 0x12#8), (.kil22, 0x22#8), (.kil32, 0x32#8), (.kil42, 0x42#8), (.kil52, 0x52#8),
    (.kil62, 0x62#8), (.kil72, 0x72#8), (.kil92, 0x92#8), (.kilB2, 0xB2#8), (.kilD2, 0xD2#8), (.kilF2, 0xF2#8)]

theorem row_of_haltSlots : ∀ slot ∈ haltSlots, slot.1.row.tier = .halt ∧ slot.1.row.opcode = slot.2 := by decide

/-- Settles O26: no halt slot executes, whatever the parameters are. -/
theorem haltSlotsFault : Obligations.HaltSlotsFault := by
  intro i opcode s hmem
  obtain ⟨htier, hopcode⟩ := row_of_haltSlots _ hmem
  rw [exec_of_halt i s htier, hopcode]

/-! ### The gated immediates (R282 to R285, R287, R288) -/

/-- An instruction on an immediate reads no memory, and completes with what its rule makes of the byte and the fetched registers. -/
theorem completesWith_of_immediate {i : Instr} {s : State} {imm : Byte} {f : Byte → State → State} {c : Cpu} {p : Byte}
    {flags : Flag → Option Bool} (himm : i.operand = .immediate imm) (hrow : rowExecutes i.row s.params = true)
    (hr : routineOf i.row.mnemonic = immediateOnly f)
    (hf : f imm (s.setPc (nextPc i s)) = { s with cpu := { c with p := p, stall := s.cpu.stall } })
    (hp : ∀ f, getFlag p f = (flags f).getD (getFlag s.cpu.p f)) : CompletesWith i s s c 0 flags := by
  have hvalue : (operandsAt i s).operand = .value imm := by rw [operandsAt, himm]; rfl
  have hstate : resolvedAt i s = s.setPc (nextPc i s) := by rw [resolvedAt, himm]; rfl
  refine completesWith_of_routine hrow ?_ hp
  rw [hr, immediateOnly_eq i s hvalue, hstate, hf]

/-- `ANC` copies the new N to C (R282). -/
theorem getFlag_anc (p r : Byte) (f : Flag) :
    getFlag (setFlag (flagsZN p r) .c (getFlag (flagsZN p r) .n)) f = (cznOf (r.getLsbD 7) r f).getD (getFlag p f) := by
  cases f <;> simp [cznOf, znOf, bit]

/-- Settles O23: with the gate open each is one change of the fetched registers by the immediate. -/
theorem gatedImmediatesComplete : Obligations.GatedImmediatesComplete := by
  intro imm s hopen
  refine ⟨fun i hmem => ?anc, ?alr, fun r hr => ?arr, ?axs, ?xaa, ?lxa⟩
  case anc =>
    simp only [List.mem_cons, List.not_mem_nil, or_false] at hmem
    obtain rfl | rfl := hmem <;> exact completesWith_of_immediate rfl hopen rfl rfl (getFlag_anc _ _)
  case alr => exact completesWith_of_immediate rfl hopen rfl rfl (getFlag_flagsZN_setFlag_c _ _ _)
  case arr =>
    rw [← boolByte_shiftLeft_seven] at hr
    subst hr
    refine completesWith_of_immediate rfl hopen rfl rfl fun f => ?_
    cases f <;> simp [znOf, bit, beq_eq_decide]
  case axs =>
    simp only [← BitVec.le_def]
    exact completesWith_of_immediate rfl hopen rfl rfl (getFlag_flagsZN_setFlag_c _ _ _)
  case xaa | lxa => exact completesWith_of_immediate rfl hopen rfl rfl (getFlag_flagsZN _ _)

/-! ### The gated memory instructions (R286, R289 to R292) -/

/-- A stack pointer set before a write is the one found after it. -/
theorem memWrite_setSp (addr : Word) (b sp : Byte) (s : State) :
    memWrite addr b (s.setSp sp) = (memWrite addr b s).map fun t => t.setSp sp :=
  memWrite_mapCpu addr b s (fun c => { c with sp := sp }) fun _ _ => rfl

/-- `StoreHi` after the stack pointer is set ends as its one write does (R289, R292). -/
theorem completesStoring_of_storeHi {i : Instr} {s : State} {reg index sp : Byte} {ea : Word}
    (hrow : rowExecutes i.row s.params = true) (hea : (operandsAt i s).operand = .address ea)
    (hr : routineOf i.row.mnemonic i.row (operandsAt i s) (resolvedAt i s) =
      storeHi reg index i.row (operandsAt i s) ((resolvedAt i s).setSp sp)) :
    CompletesStoring i s (resolvedAt i s) (storeHiAddress (operandsAt i s).pageCrossed reg index ea) (storeHiValue reg index ea)
      { fetchedCpu i s with sp := sp } noFlags := by
  rw [storeHi_eq _ _ _ _ _ hea, memWrite_setSp] at hr
  refine completesStoring_of_outcomes (fun t ht => ?ok) (fun f hf => ?error) (resolvedAt_params i s)
  case ok =>
    rw [ht] at hr
    refine completesWith_of_routine (p := s.cpu.p) hrow ?_ fun _ => rfl
    exact hr.trans (congrArg (fun u : State => Except.ok (0, u.setSp sp)) (memWrite_resolvedAt_withCpu ht))
  case error =>
    rw [hf] at hr
    exact exec_of_routine_error hrow hr

/-- The gated stores: the byte and the index that `StoreHi` is given, and the stack pointer after it (R289 to R292). -/
def gatedStores (c : Cpu) : List (Mnemonic × Byte × Byte × Byte) :=
  [(.ahx, c.a &&& c.x, c.y, c.sp), (.shy, c.y, c.x, c.sp), (.shx, c.x, c.y, c.sp), (.tas, c.a &&& c.x, c.y, c.a &&& c.x)]

/-- A gated store is `StoreHi` after its stack pointer is set, which `TAS` alone changes. -/
theorem routine_of_gatedStores {m : Mnemonic} {reg index sp : Byte} {s : State} (hmem : (m, reg, index, sp) ∈ gatedStores s.cpu)
    (row : Row) (ops : Operands) :
    m ∈ addressMnemonics ∧ m ≠ .kil ∧ routineOf m row ops s = storeHi reg index row ops (s.setSp sp) := by
  simp only [gatedStores, List.mem_cons, Prod.mk.injEq, List.not_mem_nil, or_false] at hmem
  obtain ⟨rfl, rfl, rfl, rfl⟩ | ⟨rfl, rfl, rfl, rfl⟩ | ⟨rfl, rfl, rfl, rfl⟩ | ⟨rfl, rfl, rfl, rfl⟩ := hmem <;>
    exact ⟨by decide, by decide, rfl⟩

/-- Settles O24: `LAS` reads its operand; the stores are `StoreHi` on registers that the resolver left alone. -/
theorem gatedMemoryInstructionsComplete : Obligations.GatedMemoryInstructionsComplete := by
  intro i s hopen
  refine ⟨fun r h hr => ?las, fun reg index sp hmem => ?store⟩
  case las =>
    subst hr
    have hrow := rowExecutes_of_admitTier3 hopen (i := i) (by rw [h]; decide)
    exact completesWith_of_reading h hrow (by dsimp only [routineOf]; rfl) (fun _ => by rfl) (getFlag_flagsZN _ _)
  case store =>
    have hcpu : gatedStores (resolvedAt i s).cpu = gatedStores s.cpu := by rw [resolvedAt_cpu]; rfl
    obtain ⟨haddress, hkil, hr⟩ := routine_of_gatedStores (s := resolvedAt i s) (by rw [hcpu]; exact hmem)
      i.row (operandsAt i s)
    obtain ⟨ea, hea⟩ := exists_address_of_mnemonic haddress s
    exact ⟨ea, storeHiValue reg index ea, hea, rfl,
      completesStoring_of_storeHi (rowExecutes_of_admitTier3 hopen hkil) hea hr⟩

end Sys2Proof.Machine
end


section
/-! PROOFS of the PPU timing and background family: the stages of a dot, its position, its events and its frame. A dot is its stages in
order, and each stage changes its own fields only: so what a dot does to a field is what the one stage does that changes it. -/

namespace Sys2Proof.Machine

/-! ### The stages of a dot (R302) -/

/-- The state after step 1 of a dot, the pixel (R354). -/
def afterPixel (s : State) : State :=
  if s.ppu.scanline ≤ 239 ∧ 1 ≤ s.ppu.dot ∧ s.ppu.dot ≤ 256 then emitPixel (s.ppu.dot - 1) s.ppu.scanline s else s

/-- The state after step 2 of a dot, the background pipeline. -/
def afterBackground (s : State) : State :=
  if renderLine s.ppu.scanline && gate (afterPixel s) then backgroundStep s.ppu.scanline s.ppu.dot (afterPixel s) else afterPixel s

/-- The state after step 3 of a dot, the sprite pipeline. -/
def afterSprites (s : State) : State :=
  if gate (afterBackground s) then spriteStep s.ppu.scanline s.ppu.dot (afterBackground s) else afterBackground s

/-- The state after step 4 of a dot, the single-dot events. -/
def afterEvents (s : State) : State := dotEvents s.ppu.scanline s.ppu.dot (afterSprites s)

theorem ppuDot_eq_afterEvents (s : State) : ppuDot s = (afterEvents s).setPpu (advancePosition (afterEvents s).ppu) := rfl

theorem afterPixel_frame (s : State) : afterPixel s = { s with events := (afterPixel s).events } := by
  unfold afterPixel
  split <;> rfl

@[simp] theorem afterPixel_ppu (s : State) : (afterPixel s).ppu = s.ppu := by rw [afterPixel_frame]

@[simp] theorem ppuRead_afterPixel (s : State) (a : Word) : ppuRead (afterPixel s) a = ppuRead s a := by
  rw [afterPixel_frame]
  rfl

@[simp] theorem gate_afterPixel (s : State) : gate (afterPixel s) = gate s := by
  rw [afterPixel_frame]
  rfl

theorem afterBackground_frame (s : State) : BackgroundFrame (afterPixel s) (afterBackground s) := by
  unfold afterBackground
  split
  · exact backgroundStep_frame _ _ _
  · exact BackgroundFrame.refl _

/-- The background pipeline does not move the gate, which reads `mask` and the parameters (R303). -/
@[simp] theorem gate_afterBackground (s : State) : gate (afterBackground s) = gate s := by
  rw [afterBackground_frame, ← gate_afterPixel s]
  rfl

theorem afterSprites_frame (s : State) : SpriteFrame (afterBackground s) (afterSprites s) :=
  SpriteFrame.ite _ (spriteStep_frame _ _ _)

theorem afterEvents_frame (s : State) : afterEvents s = { (afterSprites s).setPpu { (afterSprites s).ppu with
    status := (afterEvents s).ppu.status } with nmiLine := (afterEvents s).nmiLine, events := (afterEvents s).events } :=
  dotEvents_frame _ _ _

theorem advancePosition_frame (q : Ppu) : advancePosition q = { q with
    scanline := (advancePosition q).scanline, dot := (advancePosition q).dot, frame := (advancePosition q).frame } := by
  unfold advancePosition
  dsimp only
  generalize (if q.scanline = 261 ∧ q.dot = 340 ∧ q.frame % 2 = 1 then 1 else 0) = skip
  split
  · split <;> rfl
  · rfl

theorem ppuDot_status (s : State) : (ppuDot s).ppu.status = (afterEvents s).ppu.status :=
  (congrArg Ppu.status (advancePosition_frame (afterEvents s).ppu) :)

/-- What a dot changes, each field as the stage leaves it that changes it (R302, R304). -/
theorem ppuDot_frame (s : State) : ppuDot s = { s with
    ppu := { s.ppu with
      ntByte := (afterBackground s).ppu.ntByte, atBits := (afterBackground s).ppu.atBits
      patLo := (afterBackground s).ppu.patLo, patHi := (afterBackground s).ppu.patHi
      bgPatLo := (afterBackground s).ppu.bgPatLo, bgPatHi := (afterBackground s).ppu.bgPatHi
      bgAtLo := (afterBackground s).ppu.bgAtLo, bgAtHi := (afterBackground s).ppu.bgAtHi
      v := (afterBackground s).ppu.v
      secOam := (afterSprites s).ppu.secOam, evalState := (afterSprites s).ppu.evalState
      evalN := (afterSprites s).ppu.evalN, secSlot := (afterSprites s).ppu.secSlot
      spriteCount := (afterSprites s).ppu.spriteCount, spriteLine := (afterSprites s).ppu.spriteLine
      status := (ppuDot s).ppu.status
      scanline := (ppuDot s).ppu.scanline, dot := (ppuDot s).ppu.dot, frame := (ppuDot s).ppu.frame }
    nmiLine := (ppuDot s).nmiLine
    events := (ppuDot s).events } := by
  rw [ppuDot_status]
  calc ppuDot s
      = (afterEvents s).setPpu { (afterEvents s).ppu with
          scanline := (ppuDot s).ppu.scanline, dot := (ppuDot s).ppu.dot, frame := (ppuDot s).ppu.frame } :=
        congrArg (afterEvents s).setPpu (advancePosition_frame _)
    _ = _ := by
      conv_lhs => rw [afterEvents_frame, afterSprites_frame, afterBackground_frame, afterPixel_frame]
      rfl

/-! ### The position (R300, R305, R306) -/

/-- The position of the PPU: scanline, dot and completed frames. -/
def Ppu.position (q : Ppu) : Nat × Nat × Nat := (q.scanline, q.dot, q.frame)

theorem afterEvents_position (s : State) : (afterEvents s).ppu.position = s.ppu.position := by
  rw [afterEvents_frame, afterSprites_frame, afterBackground_frame, afterPixel_frame]
  rfl

/-- The next position on a line of 341 dots: the next dot, or dot 0 of the next line, or the next frame, whose first line starts at dot 1
after an odd frame. -/
theorem advancePosition_position {q : Ppu} {line d frame : Nat} (h : q.position = (line, d, frame)) (hd : d ≤ 340) :
    (advancePosition q).position =
      if d < 340 then (line, d + 1, frame) else if line = 261 then (0, frame % 2, frame + 1) else (line + 1, 0, frame) := by
  simp only [Ppu.position, Prod.mk.injEq] at h
  obtain ⟨rfl, rfl, rfl⟩ := h
  unfold advancePosition
  obtain hlt | heq : q.dot < 340 ∨ q.dot = 340 := by omega
  · have h1 : ¬(q.scanline = 261 ∧ q.dot = 340 ∧ q.frame % 2 = 1) := by omega
    have h2 : ¬341 ≤ q.dot + 1 := by omega
    simp [Ppu.position, hlt, h1, h2]
  · by_cases hline : q.scanline = 261
    · rcases Nat.mod_two_eq_zero_or_one q.frame with hf | hf <;> simp [Ppu.position, heq, hline, hf]
    · simp [Ppu.position, heq, hline]

theorem ppuDot_position {s : State} {line d frame : Nat} (h : s.ppu.position = (line, d, frame)) (hd : d ≤ 340) :
    (ppuDot s).ppu.position =
      if d < 340 then (line, d + 1, frame) else if line = 261 then (0, frame % 2, frame + 1) else (line + 1, 0, frame) := by
  rw [ppuDot_eq_afterEvents]
  exact advancePosition_position ((afterEvents_position s).trans h) hd

/-- The position of the `i`-th dot of a frame whose first dot is dot 0 of line 0. -/
def framePosition (i frame : Nat) : Nat × Nat × Nat := (i / 341, i % 341, frame)

theorem ppuDot_framePosition {s : State} {i frame : Nat} (h : s.ppu.position = framePosition i frame) (hi : i < 89341) :
    (ppuDot s).ppu.position = framePosition (i + 1) frame := by
  rw [ppuDot_position h (by omega), framePosition]
  split
  · rw [show (i + 1) / 341 = i / 341 by omega, show (i + 1) % 341 = i % 341 + 1 by omega]
  · rw [if_neg (by omega), show (i + 1) / 341 = i / 341 + 1 by omega, show (i + 1) % 341 = 0 by omega]

theorem dots_framePosition {k i frame : Nat} {s : State} (h : s.ppu.position = framePosition i frame) (hk : i + k ≤ 89341) :
    (dots k s).ppu.position = framePosition (i + k) frame := by
  induction k generalizing s i with
  | zero => exact h
  | succ k ih =>
    rw [dots, ih (ppuDot_framePosition h (by omega)) (by omega), Nat.add_right_comm, Nat.add_assoc]

theorem dots_succ (k : Nat) (s : State) : dots (k + 1) s = ppuDot (dots k s) := by
  induction k generalizing s with
  | zero => rfl
  | succ k ih => rw [dots, ih, ← dots]

/-- The dot after the last of a frame (R305, R306). -/
theorem dots_to_next_frame {k i frame : Nat} {s : State} (h : s.ppu.position = framePosition i frame) (hi : i ≤ 89341)
    (hk : i + k = 89342) : (dots k s).ppu.position = (0, frame % 2, frame + 1) := by
  obtain ⟨k, rfl⟩ : ∃ j, k = j + 1 := ⟨k - 1, by omega⟩
  have hk : i + k = 89341 := by omega
  rw [dots_succ]
  exact ppuDot_position (hk ▸ dots_framePosition h hk.le) (by decide)

/-- Settles O41: the dots of a frame are numbered from dot 0 of line 0, and a frame that starts at dot 1 misses the first. -/
theorem framesHave89342Dots : Obligations.FramesHave89342Dots := by
  intro s hline
  refine ⟨fun hdot => ?from0, fun hdot heven => ?from1⟩
  case from0 =>
    have h : s.ppu.position = framePosition 0 s.ppu.frame := by rw [Ppu.position, hline, hdot]; rfl
    refine ⟨fun k hk => ?within, (dots_to_next_frame h (by omega) (by omega)).trans ?next⟩
    case within => exact (dots_framePosition h (by omega)).trans (by rw [Nat.zero_add]; rfl)
    case next => rcases Nat.mod_two_eq_zero_or_one s.ppu.frame with hf | hf <;> simp [hf]
  case from1 =>
    have h : s.ppu.position = framePosition 1 s.ppu.frame := by rw [Ppu.position, hline, hdot]; rfl
    exact heven ▸ dots_to_next_frame h (by omega) (by omega)

/-! ### The events and the output (R328, R329, R331, R354) -/

/-- No two single-dot events fall on one dot (R302). -/
theorem dotEvents_eq (line d : Nat) (s : State) : dotEvents line d s =
    if line = 240 ∧ d = 0 then s.emit .frame else if line = 241 ∧ d = 1 then vblankStart s
    else if line = 261 ∧ d = 1 then vblankEnd s else s := by
  unfold dotEvents
  dsimp only
  by_cases h0 : line = 240 ∧ d = 0
  · rw [if_pos h0, if_neg (by omega), if_neg (by omega), if_pos h0]
  by_cases h1 : line = 241 ∧ d = 1
  · rw [if_neg h0, if_pos h1, if_neg (by omega), if_neg h0, if_pos h1]
  · rw [if_neg h0, if_neg h1, if_neg h0, if_neg h1]

theorem events_dotEvents (line d : Nat) (s : State) :
    (dotEvents line d s).events = if line = 240 ∧ d = 0 then .frame :: s.events else s.events := by
  rw [dotEvents_eq]
  split_ifs <;> rfl

theorem nmiLine_dotEvents (line d : Nat) (s : State) :
    (dotEvents line d s).nmiLine = (s.nmiLine || (decide (line = 241 ∧ d = 1) && s.ppu.ctrl.getLsbD 7)) := by
  rw [dotEvents_eq]
  by_cases h : line = 241 ∧ d = 1
  · rw [if_neg (by omega), if_pos h, decide_eq_true h]
    rfl
  · rw [decide_eq_false h, if_neg h]
    split_ifs <;> simp [vblankEnd]

/-- The vblank flag is bit 7 of `status` (R41). -/
theorem getLsbD_vblankBit (k : Nat) : (0x80#8).getLsbD k = decide (k = 7) :=
  (BitVec.getLsbD_twoPow (w := 8) 7 k).trans (by simp [eq_comm])

theorem getLsbD_status_vblankStart (s : State) (k : Nat) :
    (vblankStart s).ppu.status.getLsbD k = (s.ppu.status.getLsbD k || decide (k = 7)) :=
  (BitVec.getLsbD_or ..).trans (congrArg _ (getLsbD_vblankBit k))

theorem getLsbD_status_vblankEnd (s : State) (k : Nat) :
    (vblankEnd s).ppu.status.getLsbD k = (s.ppu.status.getLsbD k && !decide (k = 7)) := by
  refine (BitVec.getLsbD_and ..).trans ?_
  rw [show 0x7F#8 = ~~~0x80#8 from rfl, BitVec.getLsbD_not, getLsbD_vblankBit]
  by_cases hk : k < 8
  · simp [hk]
  · simp [BitVec.getLsbD_of_ge s.ppu.status k (by omega)]

theorem getLsbD_status_dotEvents (line d : Nat) (s : State) (k : Nat) :
    (dotEvents line d s).ppu.status.getLsbD k =
      if k = 7 ∧ line = 241 ∧ d = 1 then true else if k = 7 ∧ line = 261 ∧ d = 1 then false else s.ppu.status.getLsbD k := by
  rw [dotEvents_eq]
  by_cases h1 : line = 241 ∧ d = 1
  · rw [if_neg (by omega), if_pos h1, getLsbD_status_vblankStart]
    by_cases hk : k = 7 <;> simp [hk, h1]
  by_cases h2 : line = 261 ∧ d = 1
  · rw [if_neg (c := line = 240 ∧ d = 0) (by omega), if_neg h1, if_pos h2, getLsbD_status_vblankEnd]
    by_cases hk : k = 7 <;> simp [hk, h2]
  · simp only [h1, h2, and_false, if_false]
    split <;> rfl

/-- Before the single-dot events a dot has emitted its pixel, and has left the interrupt line, `status` and `ctrl` alone. -/
theorem afterSprites_output (s : State) : (afterSprites s).events = (afterPixel s).events ∧
    (afterSprites s).nmiLine = s.nmiLine ∧ (afterSprites s).ppu.status = s.ppu.status ∧ (afterSprites s).ppu.ctrl = s.ppu.ctrl := by
  rw [afterSprites_frame, afterBackground_frame]
  exact ⟨rfl, by rw [afterPixel_frame]; rfl, by simp, by simp⟩

theorem ppuDot_events (s : State) : (ppuDot s).events =
    if s.ppu.scanline = 240 ∧ s.ppu.dot = 0 then .frame :: (afterPixel s).events else (afterPixel s).events := by
  rw [ppuDot_eq_afterEvents, State.setPpu_events, afterEvents, events_dotEvents, (afterSprites_output s).1]

/-- The events of a visible dot are its pixel (R354). -/
theorem ppuDot_events_of_visible {s : State} (h : s.ppu.scanline ≤ 239 ∧ 1 ≤ s.ppu.dot ∧ s.ppu.dot ≤ 256) :
    (ppuDot s).events = .pixel (s.ppu.dot - 1) s.ppu.scanline (pixelColour s (s.ppu.dot - 1)) :: s.events := by
  rw [ppuDot_events, if_neg (by omega), afterPixel, if_pos h]
  rfl

/-- Settles O42: the events are those of step 4, on the output, the interrupt line and the flags that step 1 left. -/
theorem dotEventsAndOutput : Obligations.DotEventsAndOutput := by
  rintro s _ _ rfl rfl
  obtain ⟨-, hnmi, hstatus, hctrl⟩ := afterSprites_output s
  refine ⟨?nmi, fun k => ?status, ?events⟩
  case nmi => rw [ppuDot_eq_afterEvents, State.setPpu_nmiLine, afterEvents, nmiLine_dotEvents, hnmi, hctrl]
  case status => rw [ppuDot_status, afterEvents, getLsbD_status_dotEvents, hstatus]
  case events =>
    split
    case isTrue hvisible => exact ppuDot_events_of_visible hvisible
    case isFalse hvisible => rw [ppuDot_events, afterPixel, if_neg hvisible]

/-! ### What a dot leaves alone (R303, R304) -/

/-- With both layers off in `mask`, a pixel is the backdrop colour (R355 to R358). -/
theorem pixelColour_of_layers_off {s : State} (hbg : s.ppu.mask.getLsbD 3 = false) (hsp : s.ppu.mask.getLsbD 4 = false) (x : Nat) :
    pixelColour s x = (ppuRead s 0x3F00#16).setWidth 6 := by
  have hindex : backgroundIndex s.ppu = 0#4 := if_neg (by simp only [bit, hbg, Bool.false_eq_true, not_false_eq_true])
  have hsprite : spriteAt s.ppu x = none := if_neg (by simp only [bit, hsp, Bool.false_eq_true, not_false_eq_true])
  rw [pixelColour, hindex, hsprite]
  rfl

/-- Rendering is on when one of the two layers is on in `mask` (R40, R303). -/
theorem rendering_eq (q : Ppu) : rendering q = (q.mask.getLsbD 3 || q.mask.getLsbD 4) := by
  unfold rendering
  generalize q.mask = m
  revert m
  decide

theorem afterBackground_of_gate_closed {s : State} (h : gate s = false) : afterBackground s = afterPixel s := by
  simp [afterBackground, h]

theorem afterSprites_of_gate_closed {s : State} (h : gate s = false) : afterSprites s = afterPixel s := by
  simp [afterSprites, afterBackground_of_gate_closed h, h]

/-- Settles O43: the stages have their frames, and with the gate closed steps 2 and 3 do nothing. -/
theorem dotFrame : Obligations.DotFrame := by
  rintro s t rfl
  refine ⟨?ports, fun hparam hbg hsp => ⟨?closed, fun hline hd1 hd256 => ?backdrop⟩⟩
  case ports =>
    rw [ppuDot_frame]
    exact ⟨rfl, rfl, rfl, rfl, rfl, rfl, rfl, rfl, rfl, rfl, rfl, rfl, rfl, rfl, rfl, rfl⟩
  case closed =>
    have hgate : gate s = false := by rw [gate, rendering_eq, hbg, hsp, hparam]; rfl
    conv_lhs => rw [ppuDot_frame, afterSprites_of_gate_closed hgate, afterBackground_of_gate_closed hgate, afterPixel_ppu]
  case backdrop => rw [ppuDot_events_of_visible ⟨hline, hd1, hd256⟩, pixelColour_of_layers_off hbg hsp]

end Sys2Proof.Machine
end

section
/-! PROOFS of the PPU timing and background family: the scroll updates and the background pipeline. The masks of the rules pick fields of
`v`, which are quotients and remainders of its number; the pipeline is one equation for the work of a fetch window. -/

namespace Sys2Proof.Machine

/-! ### Masks and fields as arithmetic on numbers -/

/-- A mask keeps one field of a number: the `k` bits from bit `i`. -/
theorem and_fieldMask (n i k : Nat) : n &&& (2 ^ k - 1) * 2 ^ i = n / 2 ^ i % 2 ^ k * 2 ^ i := by
  apply Nat.eq_of_testBit_eq
  intro j
  rw [Nat.testBit_and, Nat.testBit_mul_two_pow, Nat.testBit_mul_two_pow, Nat.testBit_two_pow_sub_one, Nat.testBit_mod_two_pow,
    Nat.testBit_div_two_pow]
  by_cases h : i ≤ j
  · simp [h, Bool.and_comm]
  · simp [h]

theorem toNat_and_fieldMask {w : Nat} (v : BitVec w) {m : BitVec w} (i k : Nat) (h : m.toNat = (2 ^ k - 1) * 2 ^ i) :
    (v &&& m).toNat = v.toNat / 2 ^ i % 2 ^ k * 2 ^ i := by
  rw [BitVec.toNat_and, h, and_fieldMask]

/-- Toggling bit `i` changes that bit, and neither the bits below nor those above. -/
theorem xor_two_pow (n i : Nat) : (n ^^^ 2 ^ i) % 2 ^ i = n % 2 ^ i ∧ (n ^^^ 2 ^ i) / 2 ^ i % 2 = 1 - n / 2 ^ i % 2 ∧
    (n ^^^ 2 ^ i) / 2 ^ i / 2 = n / 2 ^ i / 2 := by
  have hdiv : (n ^^^ 2 ^ i) / 2 ^ i = n / 2 ^ i ^^^ 1 := by rw [Nat.xor_div_two_pow, Nat.div_self (by positivity)]
  refine ⟨?_, ?_, ?_⟩
  · rw [Nat.xor_mod_two_pow, Nat.mod_self, Nat.xor_zero]
  · rw [hdiv, ← pow_one 2, Nat.xor_mod_two_pow, pow_one]
    rcases Nat.mod_two_eq_zero_or_one (n / 2 ^ i) with h | h <;> rw [h] <;> rfl
  · rw [hdiv, ← pow_one 2, Nat.xor_div_two_pow, pow_one, Nat.xor_zero]

/-! ### The scroll updates (R320 to R323) -/

/-- `v` without its coarse Y, which is the field of five bits from bit 5 (R43). -/
theorem toNat_clearCoarseY (v : VramAddr) : (v &&& 0x7C1F#15).toNat = 2 ^ 10 * (v.toNat / 1024) + v.toNat % 32 := by
  have hhigh := toNat_and_fieldMask v (m := 0x7C00#15) 10 5 rfl
  have hlow := toNat_and_fieldMask v (m := 0x001F#15) 0 5 rfl
  rw [Nat.two_pow_add_eq_or_of_lt (by omega), show 0x7C1F#15 = 0x7C00#15 ||| 0x001F#15 from rfl, BitVec.and_or_distrib_left,
    BitVec.toNat_or, hhigh, hlow]
  congr 1 <;> omega

theorem toNat_setCoarseY (v y : VramAddr) (hy : y.toNat < 32) :
    ((v &&& 0x7C1F#15) ||| y <<< 5).toNat = v.toNat / 1024 * 1024 + y.toNat * 32 + v.toNat % 32 := by
  have hshift : (y <<< 5).toNat = 2 ^ 5 * y.toNat := by
    rw [BitVec.toNat_shiftLeft, Nat.shiftLeft_eq]
    omega
  have hlow : v.toNat % 32 < 2 ^ 5 := by omega
  rw [BitVec.toNat_or, toNat_clearCoarseY, hshift, Nat.two_pow_add_eq_or_of_lt (by omega), Nat.or_assoc, Nat.or_comm (_ % _),
    ← Nat.two_pow_add_eq_or_of_lt hlow, ← Nat.two_pow_add_eq_or_of_lt (by omega)]
  omega

theorem coarseX_eq_iff (v : VramAddr) : v &&& 0x001F#15 = 31#15 ↔ v.toNat % 32 = 31 := by
  rw [← BitVec.toNat_inj, toNat_and_fieldMask v 0 5 rfl]
  norm_num

theorem toNat_incCoarseX (v : VramAddr) : (incCoarseX v).toNat =
    if v.toNat % 32 = 31 then v.toNat / 32 * 32 ^^^ 2 ^ 10 else v.toNat + 1 := by
  simp only [incCoarseX, coarseX_eq_iff]
  split
  case isTrue =>
    rw [BitVec.toNat_xor, toNat_and_fieldMask v 5 10 rfl]
    congr 1
    omega
  case isFalse =>
    rw [BitVec.toNat_add, BitVec.toNat_ofNat]
    omega

theorem fineY_eq_iff (v : VramAddr) : v &&& 0x7000#15 = 0x7000#15 ↔ v.toNat / 4096 = 7 := by
  rw [← BitVec.toNat_inj, toNat_and_fieldMask v 12 3 rfl, BitVec.toNat_ofNat]
  omega

theorem toNat_coarseY (v : VramAddr) : ((v >>> 5) &&& 0x1F#15).toNat = v.toNat / 32 % 32 := by
  rw [toNat_and_fieldMask _ 0 5 rfl, BitVec.toNat_ushiftRight, Nat.shiftRight_eq_div_pow]
  omega

theorem coarseY_eq_iff (v y : VramAddr) : (v >>> 5) &&& 0x1F#15 = y ↔ v.toNat / 32 % 32 = y.toNat := by
  rw [← BitVec.toNat_inj, toNat_coarseY]

/-- `IncY` on the fields of `v`: `u` is `v` with fine Y cleared. -/
theorem toNat_incY (v : VramAddr) (u : Nat) (hu : u = v.toNat % 4096) : (incY v).toNat =
    if v.toNat / 4096 ≠ 7 then v.toNat + 4096
    else if v.toNat / 32 % 32 = 29 then (u ^^^ 2 ^ 11) / 1024 * 1024 + (u ^^^ 2 ^ 11) % 32
    else if v.toNat / 32 % 32 = 31 then u / 1024 * 1024 + u % 32
    else u / 1024 * 1024 + (v.toNat / 32 % 32 + 1) * 32 + u % 32 := by
  have hu' : (v &&& 0x0FFF#15).toNat = u := by
    rw [hu, toNat_and_fieldMask v 0 12 rfl]
    omega
  have hcoarse : u / 32 % 32 = v.toNat / 32 % 32 := by omega
  have hnext (h : v.toNat / 32 % 32 ≠ 31) : (((v &&& 0x0FFF#15) >>> 5 &&& 0x1F#15) + 1#15).toNat = v.toNat / 32 % 32 + 1 := by
    rw [BitVec.toNat_add, toNat_coarseY, hu', hcoarse, BitVec.toNat_ofNat]
    omega
  simp only [incY, ne_eq, fineY_eq_iff, coarseY_eq_iff, hu', hcoarse, BitVec.reduceToNat]
  split
  case isTrue h =>
    rw [BitVec.toNat_add, BitVec.toNat_ofNat]
    omega
  case isFalse =>
    split
    case isTrue =>
      rw [toNat_clearCoarseY, BitVec.toNat_xor, hu', Nat.mul_comm]
      rfl
    case isFalse =>
      split
      case isTrue =>
        rw [toNat_clearCoarseY, hu', Nat.mul_comm]
        rfl
      case isFalse h => rw [toNat_setCoarseY _ _ (by rw [hnext h]; omega), hnext h, hu']

/-- The bits that `CopyHorizontal` takes from `t` and `CopyVertical` leaves in `v`. -/
theorem horizontalMask : ∀ k < 15, (0x041F#15).getLsbD k = decide (k ≤ 4 ∨ k = 10) ∧
    (0x7BE0#15).getLsbD k = !decide (k ≤ 4 ∨ k = 10) := by decide

theorem getLsbD_copyHorizontal (v t : VramAddr) {k : Nat} (hk : k < 15) :
    (copyHorizontal v t).getLsbD k = if k ≤ 4 ∨ k = 10 then t.getLsbD k else v.getLsbD k := by
  obtain ⟨h, h'⟩ := horizontalMask k hk
  rw [copyHorizontal, BitVec.getLsbD_or, BitVec.getLsbD_and, BitVec.getLsbD_and, h, h']
  split <;> simp [*]

theorem getLsbD_copyVertical (v t : VramAddr) {k : Nat} (hk : k < 15) :
    (copyVertical v t).getLsbD k = if k ≤ 4 ∨ k = 10 then v.getLsbD k else t.getLsbD k := by
  rw [show copyVertical v t = copyHorizontal t v from BitVec.or_comm .., getLsbD_copyHorizontal t v hk]

/-- The scroll updates of a dot: at most one of them happens (R302). -/
theorem scrollStep_eq (line d : Nat) (s : State) : scrollStep line d s = s.setV (
    if d = 256 then incY s.ppu.v else if d = 257 then copyHorizontal s.ppu.v s.ppu.t
    else if line = 261 ∧ 280 ≤ d ∧ d ≤ 304 then copyVertical s.ppu.v s.ppu.t else s.ppu.v) := by
  unfold scrollStep
  dsimp only
  by_cases h0 : d = 256
  · rw [if_pos h0, if_neg (by omega), if_neg (by omega), if_pos h0]
  by_cases h1 : d = 257
  · rw [if_neg h0, if_pos h1, if_neg (by omega), if_neg h0, if_pos h1]
  rw [if_neg h0, if_neg h1, if_neg h0, if_neg h1]
  split <;> rfl

/-- The fetch of a window's dot, by its phase (R302, R310). -/
theorem windowFetch_eq (phase : Nat) (s : State) : windowFetch phase s = s.setPpu { s.ppu with
    ntByte := if phase = 2 then ppuRead s (nametableAddress s.ppu.v) else s.ppu.ntByte
    atBits := if phase = 4 then (ppuRead s (attributeAddress s.ppu.v) >>> attributeShift s.ppu.v).setWidth 2 else s.ppu.atBits
    patLo := if phase = 6 then ppuRead s (bgPatternAddress s.ppu) else s.ppu.patLo
    patHi := if phase = 0 then ppuRead s (bgPatternAddress s.ppu + 8#16) else s.ppu.patHi
    v := if phase = 0 then incCoarseX s.ppu.v else s.ppu.v } := by
  unfold windowFetch
  split
  case h_5 h2 h4 h6 h0 => rw [if_neg h2, if_neg h4, if_neg h6, if_neg h0, if_neg h0]; rfl
  all_goals rfl

/-- A shift register before the shift of a window's dot: reloaded at phase 1 (R310, R311). -/
def reloadAt (d : Nat) (reg : BitVec 16) (b : Byte) : BitVec 16 := if d % 8 = 1 then reloadLow reg b else reg

/-- What a dot of a fetch window does (R302, R310). -/
theorem windowStep_eq (d : Nat) (s : State) : windowStep d s = s.setPpu { s.ppu with
    bgPatLo := reloadAt d s.ppu.bgPatLo s.ppu.patLo <<< 1
    bgPatHi := reloadAt d s.ppu.bgPatHi s.ppu.patHi <<< 1
    bgAtLo := reloadAt d s.ppu.bgAtLo (replicateBit (s.ppu.atBits.getLsbD 0)) <<< 1
    bgAtHi := reloadAt d s.ppu.bgAtHi (replicateBit (s.ppu.atBits.getLsbD 1)) <<< 1
    ntByte := if d % 8 = 2 then ppuRead s (nametableAddress s.ppu.v) else s.ppu.ntByte
    atBits := if d % 8 = 4 then (ppuRead s (attributeAddress s.ppu.v) >>> attributeShift s.ppu.v).setWidth 2 else s.ppu.atBits
    patLo := if d % 8 = 6 then ppuRead s (bgPatternAddress s.ppu) else s.ppu.patLo
    patHi := if d % 8 = 0 then ppuRead s (bgPatternAddress s.ppu + 8#16) else s.ppu.patHi
    v := if d % 8 = 0 then incCoarseX s.ppu.v else s.ppu.v } := by
  rw [windowStep, windowFetch_eq]
  unfold reloadAt
  split <;> rfl

theorem inWindow_iff (d : Nat) : inWindow d = true ↔ (1 ≤ d ∧ d ≤ 256) ∨ (321 ≤ d ∧ d ≤ 336) := by
  simp [inWindow]

theorem renderLine_iff (line : Nat) : renderLine line = true ↔ line ≤ 239 ∨ line = 261 := by
  simp [renderLine]

theorem backgroundStep_v (line d : Nat) (s : State) : (backgroundStep line d s).ppu.v =
    if ((1 ≤ d ∧ d ≤ 255) ∨ (321 ≤ d ∧ d ≤ 336)) ∧ d % 8 = 0 then incCoarseX s.ppu.v
    else if d = 256 then incY (incCoarseX s.ppu.v)
    else if d = 257 then copyHorizontal s.ppu.v s.ppu.t
    else if line = 261 ∧ 280 ≤ d ∧ d ≤ 304 then copyVertical s.ppu.v s.ppu.t
    else s.ppu.v := by
  rw [backgroundStep, scrollStep_eq, State.setV_ppu]
  by_cases hd : inWindow d = true
  case pos =>
    have hwindow := (inWindow_iff d).1 hd
    rw [if_pos hd, windowStep_eq]
    by_cases h256 : d = 256
    · subst h256
      rfl
    have h257 : d ≠ 257 := by omega
    have hvertical : ¬(line = 261 ∧ 280 ≤ d ∧ d ≤ 304) := by omega
    rw [if_neg h256, if_neg h256, if_neg h257, if_neg h257, if_neg hvertical, if_neg hvertical]
    exact if_congr (by omega) rfl rfl
  case neg =>
    have hwindow := (inWindow_iff d).not.1 hd
    have h256 : d ≠ 256 := by omega
    have hfetch : ¬(((1 ≤ d ∧ d ≤ 255) ∨ (321 ≤ d ∧ d ≤ 336)) ∧ d % 8 = 0) := by omega
    rw [if_neg hd, if_neg h256, if_neg hfetch, if_neg h256]

theorem afterBackground_v (s : State) : (afterBackground s).ppu.v =
    if gate s = true ∧ (s.ppu.scanline ≤ 239 ∨ s.ppu.scanline = 261) then
      (backgroundStep s.ppu.scanline s.ppu.dot (afterPixel s)).ppu.v
    else s.ppu.v := by
  simp only [afterBackground, gate_afterPixel, ← renderLine_iff]
  by_cases hline : renderLine s.ppu.scanline = true <;> by_cases hgate : gate s = true <;> simp [hline, hgate]

/-- Settles O44: the updates are arithmetic on the fields of `v`, and each falls in its own branch of step 2. -/
theorem scrollUpdates : Obligations.ScrollUpdates := by
  refine ⟨fun v => ?coarseX, fun v => ?y, fun v t k hk => ⟨getLsbD_copyHorizontal v t hk, getLsbD_copyVertical v t hk⟩, ?dots⟩
  case coarseX =>
    obtain ⟨hlow, hbit, hhigh⟩ := xor_two_pow (v.toNat / 32 * 32) 10
    rw [toNat_incCoarseX]
    split <;> omega
  case y =>
    generalize hu : v.toNat % 4096 = u
    obtain ⟨hlow, hbit, hhigh⟩ := xor_two_pow u 11
    rw [toNat_incY v u hu.symm]
    by_cases hfine : v.toNat / 4096 = 7
    case neg =>
      simp only [hfine, ne_eq, not_false_eq_true, false_and, if_true, if_false]
      omega
    case pos =>
      simp only [hfine, ne_eq, not_true_eq_false, true_and, if_true, if_false]
      split
      · omega
      · split <;> omega
  case dots =>
    rintro s _ _ rfl rfl
    rw [ppuDot_frame]
    exact (afterBackground_v s).trans (by rw [backgroundStep_v, afterPixel_ppu])

/-! ### The background pipeline (R311 to R317) -/

/-- A reload keeps the high byte of a shift register (R311). -/
theorem reloadLow_eq (reg : BitVec 16) (b : Byte) : reloadLow reg b = Word.ofBytes (Word.hi reg) b := by
  have hhigh := toNat_and_fieldMask reg (m := 0xFF00#16) 8 8 rfl
  have hlow : (zext16 b).toNat = b.toNat := BitVec.toNat_setWidth_of_le (by decide)
  apply BitVec.eq_of_toNat_eq
  rw [reloadLow, BitVec.toNat_or, hhigh, hlow, Nat.mul_comm, ← Nat.two_pow_add_eq_or_of_lt b.isLt, Word.ofBytes_toNat, Word.hi,
    BitVec.extractLsb'_toNat, Nat.shiftRight_eq_div_pow, Nat.mul_comm]

theorem toNat_vramWord (v : VramAddr) : (vramWord v).toNat = v.toNat := BitVec.toNat_setWidth_of_le (by decide)

/-- A mask on a shifted `v` keeps one field of `v`. -/
theorem toNat_shifted_vramWord_and (v : VramAddr) (n : Nat) {m : Word} (i k : Nat) (h : m.toNat = (2 ^ k - 1) * 2 ^ i) :
    (vramWord v >>> n &&& m).toNat = v.toNat / 2 ^ n / 2 ^ i % 2 ^ k * 2 ^ i := by
  rw [toNat_and_fieldMask _ i k h, BitVec.toNat_ushiftRight, Nat.shiftRight_eq_div_pow, toNat_vramWord]

theorem nametableAddress_eq (v : VramAddr) : nametableAddress v = BitVec.ofNat 16 (0x2000 + v.toNat % 0x1000) := by
  have hlow := toNat_and_fieldMask (vramWord v) (m := 0x0FFF#16) 0 12 rfl
  have hlt : v.toNat % 0x1000 < 2 ^ 13 := by omega
  rw [toNat_vramWord] at hlow
  apply BitVec.eq_of_toNat_eq
  calc (nametableAddress v).toNat
      = 2 ^ 13 * 1 ||| v.toNat % 0x1000 := by
        rw [nametableAddress, BitVec.toNat_or, hlow, pow_zero, Nat.div_one, Nat.mul_one]
        rfl
    _ = 0x2000 + v.toNat % 0x1000 := (Nat.two_pow_add_eq_or_of_lt hlt 1).symm
    _ = _ := by
      rw [BitVec.toNat_ofNat]
      omega

/-- The nametable bits that R314 picks do not meet the base address 0x23C0. -/
theorem attributeTable_or (nt : Nat) (h : nt < 4) : 0x23C0 ||| nt * 1024 = 2 ^ 6 * (0x8F + nt * 16) := by
  revert h nt
  decide

/-- The masks of R314 pick the nametable bits and three bits of each coordinate. -/
theorem attributeAddress_eq (v : VramAddr) : attributeAddress v =
    BitVec.ofNat 16 (0x23C0 + v.toNat / 1024 % 4 * 1024 + v.toNat / 128 % 8 * 8 + v.toNat / 4 % 8) := by
  have hnt : (vramWord v &&& 0x0C00#16).toNat = v.toNat / 1024 % 4 * 1024 := by
    rw [toNat_and_fieldMask _ 10 2 rfl, toNat_vramWord]
    omega
  have hy : (vramWord v >>> 4 &&& 0x38#16).toNat = 2 ^ 3 * (v.toNat / 128 % 8) := by
    rw [toNat_shifted_vramWord_and v 4 3 3 rfl]
    omega
  have hx : (vramWord v >>> 2 &&& 0x07#16).toNat = v.toNat / 4 % 8 := by
    rw [toNat_shifted_vramWord_and v 2 0 3 rfl]
    omega
  have hxlt : v.toNat / 4 % 8 < 2 ^ 3 := by omega
  apply BitVec.eq_of_toNat_eq
  rw [attributeAddress, BitVec.toNat_or, BitVec.toNat_or, BitVec.toNat_or, hnt, hy, hx, BitVec.toNat_ofNat,
    attributeTable_or _ (by omega), Nat.or_assoc, ← Nat.two_pow_add_eq_or_of_lt hxlt,
    ← Nat.two_pow_add_eq_or_of_lt (by omega), BitVec.toNat_ofNat]
  omega

theorem attributeShift_eq (v : VramAddr) : attributeShift v = v.toNat / 64 % 2 * 4 + v.toNat / 2 % 2 * 2 := by
  have hy : (vramWord v >>> 4 &&& 0x04#16).toNat = 2 ^ 2 * (v.toNat / 64 % 2) := by
    rw [toNat_shifted_vramWord_and v 4 2 1 rfl]
    omega
  have hx : (vramWord v &&& 0x02#16).toNat = v.toNat / 2 % 2 * 2 := by
    rw [toNat_and_fieldMask _ 1 1 rfl, toNat_vramWord]
    omega
  have hxlt : v.toNat / 2 % 2 * 2 < 2 ^ 2 := by omega
  rw [attributeShift, BitVec.toNat_or, hy, hx, ← Nat.two_pow_add_eq_or_of_lt hxlt]
  omega

theorem bgPatternAddress_eq (q : Ppu) : bgPatternAddress q =
    BitVec.ofNat 16 ((if q.ctrl.getLsbD 4 then 0x1000 else 0) + q.ntByte.toNat * 16 + q.v.toNat / 4096) := by
  apply BitVec.eq_of_toNat_eq
  have hrow : (vramWord q.v >>> 12).toNat = q.v.toNat / 4096 := by
    rw [BitVec.toNat_ushiftRight, Nat.shiftRight_eq_div_pow, toNat_vramWord]
  have htile : (zext16 q.ntByte * 16#16).toNat = q.ntByte.toNat * 16 := by
    rw [zext16, BitVec.toNat_mul, BitVec.toNat_setWidth_of_le (by decide), BitVec.toNat_ofNat]
    omega
  rw [bgPatternAddress, BitVec.toNat_add, BitVec.toNat_add, hrow, htile, bit, BitVec.toNat_ofNat]
  split <;> simp

theorem setWidth_ushiftRight (b : Byte) (n : Nat) : (b >>> n).setWidth 2 = BitVec.ofNat 2 (b.toNat / 2 ^ n) := by
  apply BitVec.eq_of_toNat_eq
  rw [BitVec.toNat_setWidth, BitVec.toNat_ushiftRight, Nat.shiftRight_eq_div_pow, BitVec.toNat_ofNat]

/-- After the pixel, step 2 is the work of a fetch window, if the dot lies in one, and a change of `v` (R302). -/
theorem afterBackground_eq (s : State) : ∃ v, afterBackground s =
    State.setV (if gate s && renderLine s.ppu.scanline && inWindow s.ppu.dot then windowStep s.ppu.dot (afterPixel s)
      else afterPixel s) v := by
  unfold afterBackground backgroundStep
  rw [gate_afterPixel, Bool.and_comm (gate s)]
  cases renderLine s.ppu.scanline && gate s with
  | false => exact ⟨_, rfl⟩
  | true => exact ⟨_, scrollStep_eq _ _ _⟩

/-- Settles O45: in a fetch window step 2 is `windowStep` but for `v`, and elsewhere it changes nothing else than `v`. -/
theorem backgroundPipeline : Obligations.BackgroundPipeline := by
  rintro s _ _ _ fetching rfl rfl rfl hfetching
  obtain ⟨v, hv⟩ := afterBackground_eq s
  rw [← renderLine_iff, ← inWindow_iff, ← and_assoc, ← Bool.and_eq_true, ← Bool.and_eq_true] at hfetching
  rw [ppuDot_frame]
  refine ⟨fun h => ?window, fun h => ?hold⟩
  case window =>
    rw [if_pos (hfetching.1 h), windowStep_eq] at hv
    rw [hv]
    simp only [State.setPpu_ppu, State.setV_ppu, reloadAt, reloadLow_eq, nametableAddress_eq, attributeAddress_eq, attributeShift_eq,
      bgPatternAddress_eq, BitVec.ofNat_add_ofNat, setWidth_ushiftRight, ppuRead_afterPixel, afterPixel_ppu]
    refine ⟨fun hreload => ?reload, fun hreload => ?shift, trivial, trivial, trivial, trivial⟩
    case reload => simp only [if_pos hreload, replicateBit, and_self]
    case shift => simp only [if_neg hreload, and_self]
  case hold =>
    rw [if_neg (hfetching.not.1 h)] at hv
    rw [hv, State.setV_ppu, afterPixel_ppu]
    exact ⟨rfl, rfl⟩

end Sys2Proof.Machine
end

section
/-! PROOFS of the sprite and pixel family: evaluation, the sprite fetch and its pattern address, the sprite work of a dot, and the
compositor. -/

namespace Sys2Proof.Machine

/-! ### Evaluation (R342 to R345)

From a state in which the evaluator is about to look at a sprite, it passes over that sprite in one step or copies it in four; so its
outcome follows by induction on the sprites that are left. -/

/-- Whether sprite `n` is in range of a scanline (R344). -/
def spriteIn (q : Ppu) (line n : Nat) : Bool := inRange q (q.oamByte (4 * n)).toNat line

/-- The sprites in range of a scanline among the `m` from index `n` on. -/
def inRangeFrom (q : Ppu) (line n m : Nat) : List Nat := (List.range' n m).filter (spriteIn q line)

theorem spritesInRange_eq (q : Ppu) (line : Nat) : spritesInRange q line = inRangeFrom q line 0 64 := by
  rw [spritesInRange, inRangeFrom, List.range_eq_range']
  rfl

theorem inRangeFrom_succ_of_in {q : Ppu} {line n : Nat} (h : spriteIn q line n = true) (m : Nat) :
    inRangeFrom q line n (m + 1) = n :: inRangeFrom q line (n + 1) m := by
  rw [inRangeFrom, List.range'_succ, List.filter_cons_of_pos h, inRangeFrom]

theorem inRangeFrom_succ_of_out {q : Ppu} {line n : Nat} (h : spriteIn q line n = false) (m : Nat) :
    inRangeFrom q line n (m + 1) = inRangeFrom q line (n + 1) m := by
  rw [inRangeFrom, List.range'_succ, List.filter_cons_of_neg (by simp [h]), inRangeFrom]

/-- Which sprites are in range depends on `oam` and `ctrl` alone (R344). -/
theorem inRangeFrom_congr {q r : Ppu} (hoam : r.oam = q.oam) (hctrl : r.ctrl = q.ctrl) (line n m : Nat) :
    inRangeFrom r line n m = inRangeFrom q line n m := by
  have hheight : spriteHeight r = spriteHeight q := by rw [spriteHeight, hctrl, spriteHeight]
  have h : spriteIn r line = spriteIn q line := by
    funext i
    rw [spriteIn, spriteIn, inRange, inRange, Ppu.oamByte, Ppu.oamByte, hoam, hheight]
  rw [inRangeFrom, h, inRangeFrom]

/-- The evaluator is about to look at sprite `n`, having copied `c` sprites, fewer than eight. -/
structure LooksAt (n c : Nat) (q : Ppu) : Prop where
  state : q.evalState = .copyY
  sprite : q.evalN = n
  slot : q.secSlot = c
  count : q.spriteCount = c
  room : c < 8

/-- Secondary OAM with the four bytes of sprite `n` copied to slot `c`. -/
def copyBytes (n c : Nat) (q : Ppu) : Memory :=
  Memory.write .secOam (Memory.write .secOam (Memory.write .secOam (Memory.write .secOam q.secOam
    (4 * c) (q.oamByte (4 * n))) (4 * c + 1) (q.oamByte (4 * n + 1))) (4 * c + 2) (q.oamByte (4 * n + 2)))
    (4 * c + 3) (q.oamByte (4 * n + 3))

/-- What the evaluator leaves when it has copied sprite `n` to slot `c` (R343, R345): after the eighth it rests. -/
def copySprite (n c : Nat) (q : Ppu) : Ppu :=
  { q with
    secOam := copyBytes n c q
    spriteCount := c + 1, evalN := n + 1
    secSlot := if c + 1 = 8 then 0 else c + 1
    evalState := if c + 1 = 8 then .done else .copyY }

theorem copySprite_oam (n c : Nat) (q : Ppu) : (copySprite n c q).oam = q.oam := rfl

theorem copySprite_ctrl (n c : Nat) (q : Ppu) : (copySprite n c q).ctrl = q.ctrl := rfl

theorem secOamByte_copySprite (n c : Nat) (q : Ppu) (i : Nat) : (copySprite n c q).secOamByte i =
    if 4 * c ≤ i ∧ i < 4 * c + 4 then q.oamByte (4 * n + (i - 4 * c)) else q.secOamByte i := by
  simp only [copySprite, copyBytes, Ppu.secOamByte, Memory.read_write]
  by_cases h : 4 * c ≤ i ∧ i < 4 * c + 4
  · obtain ⟨j, rfl⟩ : ∃ j, i = 4 * c + j := ⟨i - 4 * c, by omega⟩
    have hj : j = 0 ∨ j = 1 ∨ j = 2 ∨ j = 3 := by omega
    rcases hj with rfl | rfl | rfl | rfl <;> simp
  · rw [if_neg h, if_neg (by omega), if_neg (by omega), if_neg (by omega), if_neg (by omega)]

theorem evalStep_of_out {line n c : Nat} {q : Ppu} (h : LooksAt n c q) (hn : n < 64) (hout : spriteIn q line n = false) :
    evalStep line q = { q with evalN := n + 1 } := by
  obtain ⟨hstate, rfl, -, -, -⟩ := h
  simp only [spriteIn] at hout
  simp [evalStep, hstate, hout, Nat.ne_of_lt hn]

theorem evalStep_of_end {line c : Nat} {q : Ppu} (h : LooksAt 64 c q) : evalStep line q = { q with evalState := .done } := by
  simp [evalStep, h.state, h.sprite]

theorem evalSteps_of_in {line n c : Nat} {q : Ppu} (h : LooksAt n c q) (hn : n < 64) (hin : spriteIn q line n = true) (k : Nat) :
    evalSteps line (k + 4) q = evalSteps line k (copySprite n c q) := by
  obtain ⟨hstate, rfl, rfl, hcount, -⟩ := h
  simp only [spriteIn] at hin
  have h1 : evalStep line q = { q.setSecOam (4 * q.secSlot) (q.oamByte (4 * q.evalN)) with evalState := .copyTile } := by
    simp [evalStep, hstate, hin, Nat.ne_of_lt hn]
  simp only [evalSteps, h1]
  refine congrArg (evalSteps line k) ?_
  by_cases hlast : q.secSlot + 1 = 8 <;>
    simp [evalStep, copySprite, copyBytes, Ppu.setSecOam, Ppu.oamByte, hcount, hlast]

theorem evalSteps_of_done {line : Nat} {q : Ppu} (h : q.evalState = .done) (k : Nat) : evalSteps line k q = q := by
  induction k with
  | zero => rfl
  | succ k ih =>
    have hstep : evalStep line q = q := by simp [evalStep, h]
    rw [evalSteps, hstep, ih]

/-- What the evaluator makes of the sprites `l` in range that are left, from a state `q` with `c` sprites copied. -/
structure Selects (q : Ppu) (c : Nat) (l : List Nat) (e : Ppu) : Prop where
  state : e.evalState = .done
  count : e.spriteCount = min 8 (c + l.length)
  copied : ∀ k n, c + k < 8 → l[k]? = some n → ∀ j, j < 4 → e.secOamByte (4 * (c + k) + j) = q.oamByte (4 * n + j)
  kept : ∀ i, i < 4 * c ∨ 4 * e.spriteCount ≤ i → e.secOamByte i = q.secOamByte i
  oam : e.oam = q.oam

/-- No sprite is left. -/
theorem Selects.of_end {q : Ppu} {n c : Nat} (h : LooksAt n c q) : Selects q c [] { q with evalState := .done } where
  state := rfl
  count := by have := h.room; simp only [h.count, List.length_nil]; omega
  copied _ _ _ hk := by simp at hk
  kept _ _ := rfl
  oam := rfl

/-- The eighth sprite is copied, so those left are not looked at. -/
theorem Selects.of_full {q : Ppu} (hstate : q.evalState = .done) (hcount : q.spriteCount = 8) (l : List Nat) :
    Selects q 8 l q where
  state := hstate
  count := by omega
  copied _ _ hk := absurd hk (by omega)
  kept _ _ := rfl
  oam := rfl

/-- The bytes of a copied sprite, and all other bytes of secondary OAM as the sprites after it leave them. -/
theorem Selects.of_copy {q e : Ppu} {n c : Nat} {l : List Nat} (h : Selects (copySprite n c q) (c + 1) l e) (hc : c < 8) :
    Selects q c (n :: l) e where
  state := h.state
  count := by rw [h.count, List.length_cons]; omega
  copied k m hk hm j hj := by
    cases k with
    | zero =>
      obtain rfl : n = m := by simpa using hm
      rw [h.kept _ (by omega), secOamByte_copySprite, if_pos (by omega)]
      congr 1
      omega
    | succ k =>
      have := h.copied k m (by omega) (by simpa using hm) j hj
      rwa [show c + 1 + k = c + (k + 1) by omega] at this
  kept i hi := by
    have := h.count
    rw [h.kept i (by omega), secOamByte_copySprite, if_neg (by omega)]
  oam := h.oam

/-- The evaluator, with enough steps for the sprites that are left: one for each, and three more for each copy. -/
theorem evalSteps_selects {line m n c k : Nat} {q : Ppu} (h : LooksAt n c q) (hm : n + m = 64) (hk : m + 3 * (8 - c) + 1 ≤ k) :
    Selects q c (inRangeFrom q line n m) (evalSteps line k q) := by
  induction m generalizing n c k q with
  | zero =>
    obtain ⟨k, rfl⟩ : ∃ j, k = j + 1 := ⟨k - 1, by omega⟩
    obtain rfl : n = 64 := hm
    rw [evalSteps, evalStep_of_end h, evalSteps_of_done rfl]
    exact .of_end h
  | succ m ih =>
    have hroom := h.room
    cases hin : spriteIn q line n
    case true =>
      obtain ⟨k, rfl⟩ : ∃ j, k = j + 4 := ⟨k - 4, by omega⟩
      rw [evalSteps_of_in h (by omega) hin, inRangeFrom_succ_of_in hin]
      refine Selects.of_copy ?_ hroom
      by_cases hlast : c + 1 = 8
      case pos =>
        obtain rfl : c = 7 := by omega
        rw [evalSteps_of_done rfl]
        exact .of_full rfl rfl _
      case neg =>
        rw [← inRangeFrom_congr (copySprite_oam n c q) (copySprite_ctrl n c q)]
        exact ih ⟨if_neg hlast, rfl, if_neg hlast, rfl, by omega⟩ (by omega) (by omega)
    case false =>
      obtain ⟨k, rfl⟩ : ∃ j, k = j + 1 := ⟨k - 1, by omega⟩
      rw [evalSteps, evalStep_of_out h (by omega) hin, inRangeFrom_succ_of_out hin]
      obtain ⟨h1, h2, h3, h4, h5⟩ := ih (n := n + 1) (k := k) (q := { q with evalN := n + 1 })
        ⟨h.state, rfl, h.slot, h.count, h.room⟩ (by omega) (by omega)
      exact ⟨h1, h2, h3, h4, h5⟩

/-- Settles O47: the evaluator starts at sprite 0 with no sprite copied, and 192 steps are enough. -/
theorem evaluationSelectsTheFirstEight : Obligations.EvaluationSelectsTheFirstEight := by
  rintro q _ line rfl
  obtain ⟨hstate, hcount, hcopied, hkept, hoam⟩ :=
    evalSteps_selects (line := line) (m := 64) (n := 0) (c := 0) (k := 192) (q := evalInit q)
      ⟨rfl, rfl, rfl, rfl, by decide⟩ rfl (by decide)
  rw [inRangeFrom_congr (r := evalInit q) (q := q) rfl rfl, ← spritesInRange_eq, Nat.zero_add] at hcount
  rw [inRangeFrom_congr (r := evalInit q) (q := q) rfl rfl, ← spritesInRange_eq] at hcopied
  refine ⟨hstate, hcount, fun k n hk hn j hj => ?_, fun i hi => hkept i (.inr hi), hoam⟩
  exact Nat.zero_add k ▸ hcopied k n (by omega) hn j hj

/-! ### The pattern address (R348) -/

/-- An address that an integer forms without wrapping. -/
theorem toNat_toAddress {i : Int} {n : Nat} (h : i = n) (hn : n < 65536) : (toAddress i).toNat = n := by
  rw [toAddress, h, BitVec.ofInt_natCast, BitVec.toNat_ofNat, Nat.mod_eq_of_lt hn]

/-- The pattern row that a row inside a sprite of height `h` shows, counted from the bottom under vertical flip, is inside it too. -/
theorem flippedRow_eq {h row r : Nat} {flip : Bool} (hrow : row < h) (hr : r = if flip then h - 1 - row else row) :
    (if flip = true then (h : Int) - 1 - row else row) = r ∧ r < h := by
  subst hr
  split <;> omega

/-- Settles O49: inside the sprite the pattern row is a natural number below the height, and no address wraps. -/
theorem spritePatternAddresses : Obligations.SpritePatternAddresses := by
  rintro q tile attr row r
  have htile := tile.isLt
  refine ⟨fun hsize hrow hr => ?eight, fun hsize hrow hr => ?sixteen⟩
  case eight =>
    have hheight : spriteHeight q = 8 := by rw [spriteHeight, bit, hsize]; rfl
    obtain ⟨hflip, hr8⟩ := flippedRow_eq (flip := bit attr 7) hrow hr
    change _ = (if bit q.ctrl 3 = true then 0x1000 else 0) + tile.toNat * 16 + r
    simp only [spritePatternAddress, hheight, hflip, if_true]
    refine toNat_toAddress ?_ ?_ <;> split <;> omega
  case sixteen =>
    have hheight : spriteHeight q = 16 := by rw [spriteHeight, bit, hsize]; rfl
    have htable : (tile &&& 0x01#8).toNat = tile.toNat % 2 := by
      rw [toNat_and_fieldMask tile 0 1 rfl]
      omega
    have hpair : (tile &&& 0xFE#8).toNat = tile.toNat / 2 * 2 := by
      rw [toNat_and_fieldMask tile 1 7 rfl]
      omega
    obtain ⟨hflip, hr16⟩ := flippedRow_eq (flip := bit attr 7) hrow hr
    simp only [spritePatternAddress, hheight, hflip, htable, hpair]
    rw [if_neg (by decide)]
    refine toNat_toAddress ?_ (by omega)
    split <;> omega

/-! ### The sprite fetch (R347, R349, R350) -/

theorem toNat_ofBool_append (high low : Bool) :
    (BitVec.ofBool high ++ BitVec.ofBool low).toNat = 2 * high.toNat + low.toNat := by
  cases high <;> cases low <;> rfl

theorem toNat_spritePixelValue (attr lo hi : Byte) {j b : Nat} (h : b = if attr.getLsbD 6 then j else 7 - j) :
    (spritePixelValue attr lo hi j).toNat = 2 * (hi.getLsbD b).toNat + (lo.getLsbD b).toNat := by
  subst h
  exact toNat_ofBool_append _ _

theorem spriteEntry_eq (attr : Byte) (px : BitVec 2) : spriteEntry attr px =
    { colour := BitVec.ofNat 4 (4 * (attr.toNat % 4) + px.toNat), behind := attr.getLsbD 5 } := by
  have hcolour : (attr.setWidth 2 ++ px : BitVec 4) = BitVec.ofNat 4 (4 * (attr.setWidth 2 : BitVec 2).toNat + px.toNat) := by
    generalize attr.setWidth 2 = palette
    revert palette px
    decide
  rw [spriteEntry, hcolour, BitVec.toNat_setWidth]
  rfl

/-- What the first `n` columns of a sprite at `x0` offer to an X position: their opaque pixel there, up to 255 (R347). -/
def offeredPixel (attr lo hi x0 : Byte) (n x : Nat) : Option SpritePixel :=
  if x0.toNat ≤ x ∧ x < x0.toNat + n ∧ x ≤ 255 ∧ spritePixelValue attr lo hi (x - x0.toNat) ≠ 0#2 then
    some (spriteEntry attr (spritePixelValue attr lo hi (x - x0.toNat)))
  else none

theorem spriteLineAt_registerPixel (attr lo hi x0 : Byte) (line : List (Nat × Option SpritePixel)) (j x : Nat) :
    spriteLineAt (registerPixel attr lo hi x0 line j) x =
      if x = x0.toNat + j then (spriteLineAt line x).or (offeredPixel attr lo hi x0 (j + 1) x) else spriteLineAt line x := by
  unfold registerPixel offeredPixel
  by_cases hx : x = x0.toNat + j
  case neg =>
    rw [if_neg hx]
    dsimp only
    split
    · rw [spriteLineAt_set, if_neg hx]
    · rfl
  case pos =>
    have hcolumn : x - x0.toNat = j := by omega
    have hrange : x0.toNat ≤ x ∧ x < x0.toNat + (j + 1) := by omega
    rw [if_pos hx, hcolumn, ← hx]
    dsimp only
    cases hline : spriteLineAt line x with
    | some e => simp [hline]
    | none =>
      simp only [hrange, true_and, and_comm, Option.none_or]
      split
      · rw [spriteLineAt_set, if_pos rfl]
      · exact hline

/-- The columns are registered in order, each where nothing stands yet (R350). -/
theorem spriteLineAt_registerPixels (attr lo hi x0 : Byte) (line : List (Nat × Option SpritePixel)) (n x : Nat) :
    spriteLineAt ((List.range n).foldl (registerPixel attr lo hi x0) line) x =
      (spriteLineAt line x).or (offeredPixel attr lo hi x0 n x) := by
  induction n with
  | zero =>
    have hnone : offeredPixel attr lo hi x0 0 x = none := if_neg (by omega)
    rw [hnone, Option.or_none]
    rfl
  | succ n ih =>
    rw [List.range_succ, List.foldl_append, List.foldl_cons, List.foldl_nil, spriteLineAt_registerPixel, ih]
    by_cases hx : x = x0.toNat + n
    case pos =>
      have hnone : offeredPixel attr lo hi x0 n x = none := if_neg (by omega)
      rw [if_pos hx, hnone, Option.or_none]
    case neg =>
      have hlt : x < x0.toNat + (n + 1) ↔ x < x0.toNat + n := by omega
      rw [if_neg hx, offeredPixel, offeredPixel]
      simp only [hlt]

/-- Settles O48: the fetch registers the eight columns over the line buffer. -/
theorem spriteFetchFillsEmptyPositions : Obligations.SpriteFetchFillsEmptyPositions := by
  intro k line x s
  refine ⟨fun hk => if_neg (by omega), ?_⟩
  rintro attr x0 lo hi address b px hk rfl rfl rfl rfl rfl hb hpx
  rw [← toNat_spritePixelValue _ _ _ hb] at hpx
  rw [spriteFetch, if_pos hk]
  refine (spriteLineAt_registerPixels ..).trans ?_
  unfold offeredPixel
  cases spriteLineAt s.ppu.spriteLine x with
  | some e => rfl
  | none =>
    rw [spriteEntry_eq, ← hpx]
    refine if_congr ?_ rfl rfl
    rw [hpx, ne_eq, ne_eq, ← BitVec.toNat_inj, BitVec.toNat_ofNat]

/-! ### The compositor (R355 to R358) -/

theorem toNat_backgroundAddress (bg : BitVec 4) : (backgroundAddress bg).toNat = 0x3F00 + bg.toNat := by
  revert bg
  decide

theorem toNat_spriteAddress (colour : BitVec 4) : (spriteAddress colour).toNat = 0x3F10 + colour.toNat := by
  revert colour
  decide

theorem opaquePixel_eq (index : BitVec 4) : opaquePixel index = decide (index.toNat % 4 ≠ 0) := by
  revert index
  decide

theorem toNat_ofBool_append_four (b3 b2 b1 b0 : Bool) :
    (BitVec.ofBool b3 ++ BitVec.ofBool b2 ++ BitVec.ofBool b1 ++ BitVec.ofBool b0 : BitVec 4).toNat =
      8 * b3.toNat + 4 * b2.toNat + 2 * b1.toNat + b0.toNat := by
  revert b3 b2 b1 b0
  decide

/-- No sprite pixel and a transparent one are the same to the compositor (R357). -/
theorem choose_of_transparent {sp : Option SpritePixel} (h : sp = none ∨ ∃ e, sp = some e ∧ e.colour.toNat % 4 = 0)
    (bg : BitVec 4) : choose bg sp = if opaquePixel bg then backgroundAddress bg else 0x3F00#16 := by
  obtain rfl | ⟨e, rfl, he⟩ := h
  · cases hbg : opaquePixel bg <;> simp [choose, hbg]
  · cases hbg : opaquePixel bg <;> simp [choose, hbg, opaquePixel_eq e.colour, he]

/-- An opaque sprite pixel wins but over an opaque background that it stands behind (R358). -/
theorem choose_of_opaque {e : SpritePixel} (h : e.colour.toNat % 4 ≠ 0) (bg : BitVec 4) :
    choose bg (some e) = if opaquePixel bg && e.behind then backgroundAddress bg else spriteAddress e.colour := by
  cases hbg : opaquePixel bg <;> cases hbehind : e.behind <;> simp [choose, hbg, hbehind, opaquePixel_eq e.colour, h]

/-- Settles O46: the two layers are those of `mask` and the shift registers, and the winner is chosen by its table. -/
theorem compositorFollowsItsTable : Obligations.CompositorFollowsItsTable := by
  refine ⟨fun q => ⟨fun h => ?off, fun h => ?on, fun x => rfl⟩, fun bg sp => ⟨fun h => ?transparent, ?visible⟩⟩
  case off => exact if_neg (by rw [bit, h]; decide)
  case on => exact (congrArg BitVec.toNat (if_pos h)).trans (toNat_ofBool_append_four _ _ _ _)
  case transparent =>
    rw [choose_of_transparent h, opaquePixel_eq]
    by_cases hbg : bg.toNat % 4 = 0
    · simp [hbg]
    · simp [hbg, toNat_backgroundAddress]
  case visible =>
    rintro e rfl hcolour
    rw [choose_of_opaque hcolour, opaquePixel_eq]
    simp only [Bool.and_eq_true, decide_eq_true_eq, apply_ite BitVec.toNat, toNat_backgroundAddress, toNat_spriteAddress]

/-! ### The sprite work of a dot (R340 to R342, R346)

Each dot has at most one kind of sprite work. The stages before it change the background pipeline and the output alone, which sprite work
does not look at. -/

theorem visibleSpriteStep_eq (line d : Nat) (s : State) : visibleSpriteStep line d s =
    if 1 ≤ d ∧ d ≤ 64 then s.setPpu (clearSecOam d s.ppu)
    else if 65 ≤ d ∧ d ≤ 256 then s.setPpu (evalStep line (if d = 65 then evalInit s.ppu else s.ppu))
    else if 264 ≤ d ∧ d ≤ 320 ∧ d % 8 = 0 then spriteFetch ((d - 264) / 8) line s
    else s := by
  unfold visibleSpriteStep
  dsimp only
  by_cases hclear : 1 ≤ d ∧ d ≤ 64
  · rw [if_pos hclear, if_neg (c := d = 65) (by omega), if_neg (c := 65 ≤ d ∧ d ≤ 256) (by omega), if_neg (by omega), if_pos hclear]
  by_cases heval : 65 ≤ d ∧ d ≤ 256
  · rw [if_neg hclear, if_pos heval, if_neg (c := 264 ≤ d ∧ _) (by omega), if_neg hclear, if_pos heval]
    split <;> rfl
  · rw [if_neg hclear, if_neg (c := d = 65) (by omega), if_neg heval, if_neg hclear, if_neg heval]

theorem spriteStep_eq (line d : Nat) (s : State) : spriteStep line d s =
    if d = 257 ∧ (line ≤ 239 ∨ line = 261) then s.setPpu { s.ppu with spriteLine := [] }
    else if line ≤ 239 then visibleSpriteStep line d s
    else s := by
  unfold spriteStep
  dsimp only
  by_cases hempty : d = 257 ∧ (line ≤ 239 ∨ line = 261)
  · have hnone (u : State) : visibleSpriteStep line 257 u = u := rfl
    rw [if_pos hempty, if_pos hempty, hempty.1, hnone, ite_self]
  · rw [if_neg hempty, if_neg hempty]

theorem spriteFetch_eq (k line : Nat) (s : State) :
    spriteFetch k line s = s.setPpu { s.ppu with spriteLine := (spriteFetch k line s).ppu.spriteLine } := by
  unfold spriteFetch
  split <;> rfl

/-- Where neither the clearing nor the evaluation falls, sprite work changes the line buffer alone. -/
theorem spriteStep_of_lineWork {line d : Nat} (h : 239 < line ∨ d = 0 ∨ 256 < d) (s : State) :
    spriteStep line d s = s.setPpu { s.ppu with spriteLine := (spriteStep line d s).ppu.spriteLine } := by
  rw [spriteStep_eq]
  split
  case isTrue => rfl
  case isFalse =>
    split
    case isFalse => rfl
    case isTrue =>
      rw [visibleSpriteStep_eq, if_neg (c := 1 ≤ d ∧ d ≤ 64) (by omega), if_neg (c := 65 ≤ d ∧ d ≤ 256) (by omega)]
      split
      · exact spriteFetch_eq _ _ _
      · rfl

theorem spriteStep_of_clearing {line d : Nat} (hline : line ≤ 239) (h : 1 ≤ d ∧ d ≤ 64) (s : State) :
    spriteStep line d s = s.setPpu (clearSecOam d s.ppu) := by
  rw [spriteStep_eq, if_neg (by omega), if_pos hline, visibleSpriteStep_eq, if_pos h]

theorem spriteStep_of_evaluation {line d : Nat} (hline : line ≤ 239) (h : 65 ≤ d ∧ d ≤ 256) (s : State) :
    spriteStep line d s = s.setPpu (evalStep line (if d = 65 then evalInit s.ppu else s.ppu)) := by
  rw [spriteStep_eq, if_neg (by omega), if_pos hline, visibleSpriteStep_eq, if_neg (by omega), if_pos h]

theorem evalStep_spriteLine (line : Nat) (q : Ppu) : (evalStep line q).spriteLine = q.spriteLine := by
  unfold evalStep
  split
  case h_1 | h_3 | h_4 => rfl
  case h_2 =>
    split
    · rfl
    · dsimp only
      split <;> rfl
  case h_5 =>
    dsimp only
    split <;> rfl

theorem spriteStep_spriteLine (line d : Nat) (s : State) : (spriteStep line d s).ppu.spriteLine =
    if d = 257 ∧ (line ≤ 239 ∨ line = 261) then []
    else if line ≤ 239 ∧ 264 ≤ d ∧ d ≤ 320 ∧ d % 8 = 0 then (spriteFetch ((d - 264) / 8) line s).ppu.spriteLine
    else s.ppu.spriteLine := by
  rw [spriteStep_eq, apply_ite State.ppu, apply_ite Ppu.spriteLine]
  refine if_congr Iff.rfl rfl ?_
  by_cases hline : line ≤ 239
  case neg => rw [if_neg hline, if_neg (by omega)]
  case pos =>
    rw [if_pos hline, visibleSpriteStep_eq]
    by_cases hclear : 1 ≤ d ∧ d ≤ 64
    · rw [if_pos hclear, if_neg (by omega)]
      rfl
    by_cases heval : 65 ≤ d ∧ d ≤ 256
    · rw [if_neg hclear, if_pos heval, if_neg (c := line ≤ 239 ∧ _) (by omega)]
      exact (evalStep_spriteLine _ _).trans (by split <;> rfl)
    · rw [if_neg hclear, if_neg heval]
      split
      · rw [if_pos ⟨hline, ‹_›⟩]
      · rw [if_neg fun h => absurd h.2 ‹_›]

/-- The PPU `q` with the background pipeline and `v` of `b`. -/
def Ppu.withBackground (q b : Ppu) : Ppu :=
  { q with
    ntByte := b.ntByte, atBits := b.atBits, patLo := b.patLo, patHi := b.patHi
    bgPatLo := b.bgPatLo, bgPatHi := b.bgPatHi, bgAtLo := b.bgAtLo, bgAtHi := b.bgAtHi, v := b.v }

/-- The stages before the sprite work, as it sees them. -/
theorem afterBackground_withBackground (s : State) : afterBackground s =
    { s with ppu := s.ppu.withBackground (afterBackground s).ppu, events := (afterPixel s).events } := by
  conv_lhs => rw [afterBackground_frame, afterPixel_frame]
  rfl

theorem evalStep_withBackground (line : Nat) (q b : Ppu) :
    evalStep line (q.withBackground b) = (evalStep line q).withBackground b := by
  have hstate : (q.withBackground b).evalState = q.evalState := rfl
  unfold evalStep
  rw [hstate]
  cases q.evalState
  case done | copyTile | copyAttr => rfl
  case copyY =>
    dsimp only
    by_cases hend : q.evalN = 64
    · rw [if_pos (by exact hend), if_pos hend]
      rfl
    rw [if_neg (by exact hend), if_neg hend]
    by_cases hin : inRange q (q.oamByte (4 * q.evalN)).toNat line = true
    · rw [if_pos (by exact hin), if_pos hin]
      rfl
    · rw [if_neg (by exact hin), if_neg hin]
      rfl
  case copyX =>
    dsimp only
    by_cases hlast : q.spriteCount + 1 = 8
    · rw [if_pos (by exact hlast), if_pos (by exact hlast)]
      rfl
    · rw [if_neg (by exact hlast), if_neg (by exact hlast)]
      rfl

theorem spriteFetch_withBackground (k line : Nat) (s : State) (b : Ppu) (events : List Event) :
    (spriteFetch k line { s with ppu := s.ppu.withBackground b, events := events }).ppu.spriteLine =
      (spriteFetch k line s).ppu.spriteLine := by
  unfold spriteFetch
  by_cases hk : k < s.ppu.spriteCount
  · rw [if_pos (by exact hk), if_pos hk]
    rfl
  · rw [if_neg (by exact hk), if_neg hk]
    rfl

/-- Settles O50: the stages before the sprite work hand it the sprites and what is behind the PPU bus as they were. -/
theorem spriteWorkByDot : Obligations.SpriteWorkByDot := by
  rintro s _ _ _ e hgate rfl rfl rfl
  have hwork : afterSprites s = spriteStep s.ppu.scanline s.ppu.dot (afterBackground s) :=
    if_pos ((gate_afterBackground s).trans hgate)
  obtain ⟨b, events, hb⟩ : ∃ b events, afterBackground s = { s with ppu := s.ppu.withBackground b, events := events } :=
    ⟨_, _, afterBackground_withBackground s⟩
  rw [ppuDot_frame, hwork, hb]
  refine ⟨fun hline h1 h64 i => ?clear, fun hline h65 h256 he => ?evaluate, fun h => ?evaluator, fun h => ?secOam, ?line⟩
  case clear =>
    rw [spriteStep_of_clearing hline ⟨h1, h64⟩]
    exact Memory.read_write .secOam s.ppu.secOam ((s.ppu.dot - 1) / 2) i 0xFF#8
  case evaluate =>
    subst he
    have hinit : (if s.ppu.dot = 65 then evalInit (s.ppu.withBackground b) else s.ppu.withBackground b) =
        (if s.ppu.dot = 65 then evalInit s.ppu else s.ppu).withBackground b := by split <;> rfl
    rw [spriteStep_of_evaluation hline ⟨h65, h256⟩]
    dsimp only [State.setPpu_ppu]
    rw [hinit, evalStep_withBackground]
    rfl
  case evaluator =>
    by_cases hclear : s.ppu.scanline ≤ 239 ∧ 1 ≤ s.ppu.dot ∧ s.ppu.dot ≤ 64
    · rw [spriteStep_of_clearing hclear.1 hclear.2]
      rfl
    · rw [spriteStep_of_lineWork (by omega)]
      rfl
  case secOam => rw [spriteStep_of_lineWork h]; rfl
  case line =>
    dsimp only
    rw [spriteStep_spriteLine, spriteFetch_withBackground]
    rfl

end Sys2Proof.Machine
end

section
/-! PROOFS of the PPU port family. A masked write replaces one field of a latch, bit by bit; port 0x2007 is one access to the PPU bus and
one move of `v`. -/

namespace Sys2Proof.Machine

/-! ### Masks as sets of bits -/

/-- A mask of `n` bits from bit `i` holds exactly those bits. -/
theorem getLsbD_fieldMask {w : Nat} {m : BitVec w} (i n : Nat) (h : m.toNat = (2 ^ n - 1) * 2 ^ i) (k : Nat) :
    m.getLsbD k = decide (i ≤ k ∧ k < i + n) := by
  rw [BitVec.getLsbD, h, Nat.testBit_mul_two_pow, Nat.testBit_two_pow_sub_one]
  by_cases hk : i ≤ k
  · simp only [hk, decide_true, Bool.true_and, true_and, decide_eq_decide]
    omega
  · simp [hk]

/-- A mask without `n` bits from bit `i` holds every other bit. -/
theorem getLsbD_complementMask {w : Nat} {m : BitVec w} (i n : Nat) (h : (~~~m).toNat = (2 ^ n - 1) * 2 ^ i) {k : Nat} (hk : k < w) :
    m.getLsbD k = !decide (i ≤ k ∧ k < i + n) := by
  rw [← getLsbD_fieldMask i n h, BitVec.getLsbD_not, decide_eq_true hk, Bool.true_and, Bool.not_not]

/-! ### The ports without an address pair (R372 to R382) -/

/-- Settles O38: the status byte is masked, `oamAddr` wraps in its byte, and every other access is one field of the PPU. -/
theorem ppuPortsReadAndWrite : Obligations.PpuPortsReadAndWrite := by
  intro b s
  refine ⟨fun p hp => ?writeOnly, fun r t h => ?status, rfl, rfl, rfl, rfl, fun t h => ?oamData⟩
  case writeOnly =>
    simp only [List.mem_cons, List.not_mem_nil, or_false] at hp
    obtain rfl | rfl | rfl | rfl | rfl := hp <;> rfl
  case status =>
    cases h
    refine ⟨fun k => ?read, fun k => ?cleared, rfl⟩
    case read =>
      rw [BitVec.getLsbD_and, getLsbD_fieldMask (m := 0xE0#8) 5 3 rfl]
      by_cases hk : k < 8
      · simp [hk, Bool.and_comm]
      · simp [BitVec.getLsbD_of_ge s.ppu.status k (by omega)]
    case cleared =>
      exact (getLsbD_status_vblankEnd s k).trans (by simp [Bool.and_comm])
  case oamData =>
    cases h
    refine ⟨?pointer, rfl, fun j => Memory.read_write ..⟩
    exact BitVec.toNat_add ..

/-! ### Writes to the address latches (R371, R383 to R386) -/

theorem scrollWrite_frame (q : Ppu) (b : Byte) : scrollWrite q b = { q with t := (scrollWrite q b).t, w := !q.w } := by
  cases hw : q.w <;> simp [scrollWrite, hw]

theorem addressWrite_frame (q : Ppu) (b : Byte) : addressWrite q b =
    { q with t := (addressWrite q b).t, w := !q.w, v := if q.w then (addressWrite q b).t else q.v } := by
  cases hw : q.w <;> simp [addressWrite, hw]

section
variable (q : Ppu) (b : Byte) {k : Nat} (hk : k < 15)
include hk

theorem getLsbD_t_controlWrite :
    (controlWrite q b).t.getLsbD k = if k = 10 ∨ k = 11 then b.getLsbD (k - 10) else q.t.getLsbD k := by
  simp only [controlWrite, BitVec.getLsbD_or, BitVec.getLsbD_and, BitVec.getLsbD_shiftLeft, BitVec.getLsbD_setWidth,
    getLsbD_complementMask (m := 0x73FF#15) 10 2 rfl hk, getLsbD_fieldMask (m := 0x03#15) 0 2 rfl]
  grind

/-- The first write to 0x2005: coarse X (R383). -/
theorem getLsbD_t_scrollWrite_first (hw : q.w = false) :
    (scrollWrite q b).t.getLsbD k = if k ≤ 4 then b.getLsbD (k + 3) else q.t.getLsbD k := by
  have ht : (scrollWrite q b).t = (q.t &&& 0x7FE0#15) ||| (b.zeroExtend 15 >>> 3) := by simp [scrollWrite, hw]
  simp only [ht, BitVec.getLsbD_or, BitVec.getLsbD_and, BitVec.getLsbD_ushiftRight, BitVec.getLsbD_setWidth,
    getLsbD_complementMask (m := 0x7FE0#15) 0 5 rfl hk]
  grind

/-- The second write to 0x2005: fine Y and coarse Y (R384). -/
theorem getLsbD_t_scrollWrite_second (hw : q.w = true) : (scrollWrite q b).t.getLsbD k =
    if 12 ≤ k then b.getLsbD (k - 12) else if 5 ≤ k ∧ k ≤ 9 then b.getLsbD (k - 2) else q.t.getLsbD k := by
  have ht : (scrollWrite q b).t =
      (q.t &&& 0x0C1F#15) ||| ((b.zeroExtend 15 &&& 0x07#15) <<< 12) ||| ((b.zeroExtend 15 &&& 0xF8#15) <<< 2) := by
    simp [scrollWrite, hw]
  have hmask : 0x0C1F#15 = 0x0FFF#15 &&& 0x7C1F#15 := rfl
  simp only [ht, hmask, BitVec.getLsbD_or, BitVec.getLsbD_and, BitVec.getLsbD_shiftLeft, BitVec.getLsbD_setWidth,
    getLsbD_complementMask (m := 0x0FFF#15) 12 3 rfl hk, getLsbD_complementMask (m := 0x7C1F#15) 5 5 rfl hk,
    getLsbD_fieldMask (m := 0x07#15) 0 3 rfl, getLsbD_fieldMask (m := 0xF8#15) 3 5 rfl]
  grind

/-- The first write to 0x2006: the high six bits, and bit 14 cleared (R385). -/
theorem getLsbD_t_addressWrite_first (hw : q.w = false) : (addressWrite q b).t.getLsbD k =
    if k = 14 then false else if 8 ≤ k then b.getLsbD (k - 8) else q.t.getLsbD k := by
  have ht : (addressWrite q b).t = (q.t &&& 0x00FF#15) ||| ((b.zeroExtend 15 &&& 0x3F#15) <<< 8) := by simp [addressWrite, hw]
  simp only [ht, BitVec.getLsbD_or, BitVec.getLsbD_and, BitVec.getLsbD_shiftLeft, BitVec.getLsbD_setWidth,
    getLsbD_fieldMask (m := 0x00FF#15) 0 8 rfl, getLsbD_fieldMask (m := 0x3F#15) 0 6 rfl]
  grind

/-- The second write to 0x2006: the low byte (R386). -/
theorem getLsbD_t_addressWrite_second (hw : q.w = true) :
    (addressWrite q b).t.getLsbD k = if k ≤ 7 then b.getLsbD k else q.t.getLsbD k := by
  have ht : (addressWrite q b).t = (q.t &&& 0x7F00#15) ||| b.zeroExtend 15 := by simp [addressWrite, hw]
  simp only [ht, BitVec.getLsbD_or, BitVec.getLsbD_and, BitVec.getLsbD_setWidth,
    getLsbD_complementMask (m := 0x7F00#15) 0 8 rfl hk]
  grind

end

/-- Settles O39: each write masks a field of `t` out and puts bits of the byte in, by the toggle. -/
theorem scrollAndAddressWrites : Obligations.ScrollAndAddressWrites := by
  intro b s
  refine ⟨⟨_, rfl, rfl, fun k hk => getLsbD_t_controlWrite s.ppu b hk⟩,
    ⟨_, rfl, congrArg s.setPpu (scrollWrite_frame s.ppu b), fun k hk => ?scroll⟩,
    ⟨_, rfl, congrArg s.setPpu (addressWrite_frame s.ppu b), fun k hk => ?address⟩⟩
  case scroll =>
    split
    case isTrue hw => exact getLsbD_t_scrollWrite_second s.ppu b hk hw
    case isFalse hw => exact getLsbD_t_scrollWrite_first s.ppu b hk (by simpa using hw)
  case address =>
    split
    case isTrue hw => exact getLsbD_t_addressWrite_second s.ppu b hk hw
    case isFalse hw => exact getLsbD_t_addressWrite_first s.ppu b hk (by simpa using hw)

/-! ### Port 0x2007 (R387 to R389) -/

theorem dataAddress_eq (q : Ppu) : dataAddress q = BitVec.ofNat 16 (q.v.toNat % 0x4000) := by
  apply BitVec.eq_of_toNat_eq
  rw [dataAddress, toNat_and_fieldMask _ 0 14 rfl, BitVec.toNat_setWidth_of_le (by decide), BitVec.toNat_ofNat]
  omega

theorem incV_eq (q : Ppu) :
    incV q = { q with v := BitVec.ofNat 15 ((q.v.toNat + if q.ctrl.getLsbD 2 then 32 else 1) % 0x8000) } := by
  have hnext : q.v + (if bit q.ctrl 2 then 32#15 else 1#15) =
      BitVec.ofNat 15 ((q.v.toNat + if q.ctrl.getLsbD 2 then 32 else 1) % 0x8000) := by
    apply BitVec.eq_of_toNat_eq
    rw [BitVec.toNat_add, BitVec.toNat_ofNat, bit]
    cases q.ctrl.getLsbD 2 <;> simp
  rw [incV, hnext]

theorem ppuWrite_keeps_address {s t : State} {addr : Word} {b : Byte} (h : ppuWrite s addr b = .ok t) :
    t.ppu.v = s.ppu.v ∧ t.ppu.ctrl = s.ppu.ctrl := by
  rcases ppuWrite_cases s addr b with ⟨m, hm⟩ | ⟨m, hm⟩ | ⟨-, a, ha⟩
  case inl | inr.inl =>
    cases h.symm.trans hm
    exact ⟨rfl, rfl⟩
  case inr.inr => cases h.symm.trans ha

/-- Settles O40: the bus address is `v` within 14 bits, and the bus write before the increment keeps `v` and `ctrl`. -/
theorem dataPortReadsAndWrites : Obligations.DataPortReadsAndWrites := by
  rintro b s _ _ rfl rfl
  rw [← dataAddress_eq]
  refine ⟨fun h => ?buffered, fun h => ?direct, fun t ht => ?write, fun f hf => ?error⟩
  case buffered =>
    exact (if_pos (by exact h)).trans (by rw [incV_eq]; rfl)
  case direct =>
    exact (if_neg (by exact Nat.not_lt.2 h)).trans (by rw [incV_eq]; rfl)
  case write =>
    obtain ⟨hv, hctrl⟩ := ppuWrite_keeps_address ht
    have hwrite : ppuPortWrite .data b s = .ok (t.setPpu (incV t.ppu)) := by
      simp only [ppuPortWrite, dataWrite, ht]
      rfl
    rw [hwrite, incV_eq, ← hv, ← hctrl]
    rfl
  case error =>
    simp only [ppuPortWrite, dataWrite, hf]
    rfl

end Sys2Proof.Machine
end

section
/-! PROOFS of the controller and OAM DMA family. A controller's protocol is a fact about the controller alone; the DMA is the fold of its
transfers, and its `i`-th state is the fold of the first `i`. -/

namespace Sys2Proof.Machine

/-! ### The controller protocol (R426, R427) -/

namespace Controller
variable (c : Controller)

/-- The reads of a port whose strobe is high leave it as it is (R427). -/
theorem afterRead_iterate_strobed (n : Nat) : afterRead^[n] (c.write 0x01#8) = c.write 0x01#8 :=
  Function.iterate_fixed rfl n

/-- The reads of a released port move its shift index up to 8 (R427). -/
theorem afterRead_iterate_released (n : Nat) :
    afterRead^[n] ((c.write 0x01#8).write 0x00#8) = { strobe := false, shift := min n 8, buttons := c.buttons } := by
  induction n with
  | zero => rfl
  | succ n ih =>
    rw [Function.iterate_succ_apply', ih]
    by_cases hn : n < 8
    case pos =>
      rw [Nat.min_eq_left (by omega), Nat.min_eq_left (by omega)]
      exact if_pos hn
    case neg =>
      rw [Nat.min_eq_right (by omega), Nat.min_eq_right (by omega)]
      rfl

theorem read_strobed (after8 : Bool) (n : Nat) :
    (afterRead^[n] (c.write 0x01#8)).read after8 = boolByte (c.buttons.getLsbD 0) := by
  rw [afterRead_iterate_strobed]
  rfl

theorem read_released (after8 : Bool) (n : Nat) : (afterRead^[n] ((c.write 0x01#8).write 0x00#8)).read after8 =
    boolByte (if n < 8 then c.buttons.getLsbD n else after8) := by
  rw [afterRead_iterate_released]
  by_cases hn : n < 8
  · simp [Controller.read, hn, bit, Nat.le_of_lt hn]
  · simp [Controller.read, hn, Nat.le_of_not_lt hn]

end Controller

theorem memRead_pad1 (s : State) : memRead 0x4016#16 s =
    (s.pad1.read s.params.ctrlAfter8, { s with pad1 := s.pad1.afterRead }) := rfl

theorem memRead_pad2 (s : State) : memRead 0x4017#16 s =
    (s.pad2.read s.params.ctrlAfter8, { s with pad2 := s.pad2.afterRead }) := rfl

theorem memRead_pad1_iterate (n : Nat) (s : State) :
    (fun v => (memRead 0x4016#16 v).2)^[n] s = { s with pad1 := Controller.afterRead^[n] s.pad1 } := by
  induction n with
  | zero => rfl
  | succ n ih => rw [Function.iterate_succ_apply', ih, Function.iterate_succ_apply', memRead_pad1]

theorem memRead_pad2_iterate (n : Nat) (s : State) :
    (fun v => (memRead 0x4017#16 v).2)^[n] s = { s with pad2 := Controller.afterRead^[n] s.pad2 } := by
  induction n with
  | zero => rfl
  | succ n ih => rw [Function.iterate_succ_apply', ih, Function.iterate_succ_apply', memRead_pad2]

/-- Settles O37: the reads of a port are those of its controller, and neither they nor the writes touch the other. -/
theorem controllersShiftOutTheButtons : Obligations.ControllersShiftOutTheButtons := by
  intro s t u
  refine ⟨fun ht hu => ?port1, fun ht hu => ?port2⟩
  case port1 =>
    cases ht
    cases hu
    refine ⟨rfl, fun n => ?_, fun n => ?_⟩
    · rw [memRead_pad1_iterate]
      exact s.pad1.read_strobed _ n
    · rw [memRead_pad1_iterate]
      exact s.pad1.read_released _ n
  case port2 =>
    cases ht
    cases hu
    refine ⟨rfl, fun n => ?_, fun n => ?_⟩
    · rw [memRead_pad2_iterate]
      exact s.pad2.read_strobed _ n
    · rw [memRead_pad2_iterate]
      exact s.pad2.read_released _ n

/-! ### The OAM DMA (R421, R423) -/

/-- The state that the first `i` transfers of a DMA leave. -/
def afterTransfers (page : Byte) (s : State) (i : Nat) : State := (List.range i).foldl (oamDmaByte page) s

theorem afterTransfers_succ (page : Byte) (s : State) (i : Nat) :
    afterTransfers page s (i + 1) = oamDmaByte page (afterTransfers page s i) i := by
  rw [afterTransfers, List.range_succ, List.foldl_append]
  rfl

/-- The address of the `i`-th byte of a page. -/
def pageAddress (page : Byte) (i : Nat) : Word := BitVec.ofNat 16 (page.toNat * 256 + i)

theorem toNat_pageAddress (page : Byte) {i : Nat} (hi : i < 256) : (pageAddress page i).toNat = page.toNat * 256 + i := by
  have := page.isLt
  rw [pageAddress, BitVec.toNat_ofNat, Nat.mod_eq_of_lt (by omega)]

theorem ofBytes_eq_pageAddress (page : Byte) {i : Nat} (hi : i < 256) :
    Word.ofBytes page (BitVec.ofNat 8 i) = pageAddress page i := by
  apply BitVec.eq_of_toNat_eq
  rw [Word.ofBytes_toNat, toNat_pageAddress page hi, BitVec.toNat_ofNat, Nat.mod_eq_of_lt hi]

/-- The state with OAM replaced. -/
def State.withOam (s : State) (m : Memory) : State := s.setPpu { s.ppu with oam := m }

/-- The `i`-th transfer reads its byte and writes it to `oam[i]` (R421). -/
theorem afterTransfers_succ_eq (page : Byte) (s : State) {i : Nat} (hi : i < 256) :
    afterTransfers page s (i + 1) = (memRead (pageAddress page i) (afterTransfers page s i)).2.withOam
      (Memory.write .oam (afterTransfers page s i).ppu.oam i (memRead (pageAddress page i) (afterTransfers page s i)).1) := by
  have hoam : (memRead (pageAddress page i) (afterTransfers page s i)).2.ppu.oam = (afterTransfers page s i).ppu.oam := by
    rw [memRead_frame]
  rw [afterTransfers_succ, oamDmaByte, ofBytes_eq_pageAddress page hi, ← hoam]
  rfl

theorem oam_afterTransfers_succ (page : Byte) (s : State) {i : Nat} (hi : i < 256) (j : Nat) :
    Memory.read .oam (afterTransfers page s (i + 1)).ppu.oam j =
      if j = i then (memRead (pageAddress page i) (afterTransfers page s i)).1
      else Memory.read .oam (afterTransfers page s i).ppu.oam j := by
  rw [afterTransfers_succ_eq page s hi]
  exact Memory.read_write ..

/-- A byte that a transfer wrote stays there through the transfers after it. -/
theorem oam_afterTransfers (page : Byte) (s : State) {i j : Nat} (hij : i < j) (hj : j ≤ 256) :
    Memory.read .oam (afterTransfers page s j).ppu.oam i = (memRead (pageAddress page i) (afterTransfers page s i)).1 := by
  induction j, hij using Nat.le_induction with
  | base => rw [oam_afterTransfers_succ page s (by omega), if_pos rfl]
  | succ j hij ih => rw [oam_afterTransfers_succ page s (by omega), if_neg (by omega), ih (by omega)]

/-- The pages 0x41 to 0x7F hold nothing (R423). -/
theorem memRead_of_emptyPage {page : Byte} (h : 0x41 ≤ page.toNat) (h' : page.toNat ≤ 0x7F) {i : Nat} (hi : i < 256) (s : State) :
    memRead (pageAddress page i) s = (0x00#8, s) := by
  have haddr := toNat_pageAddress page hi
  rw [memRead, cpuDecode_eq_expansion_iff.2 ⟨by omega, by omega⟩]

/-- A page whose bytes are read without a side effect: RAM, the addresses 0x4100 to 0x7FFF, program ROM (R83). -/
theorem memRead_withOam_of_quietPage {page : Byte} (hpage : page.toNat ≤ 0x1F ∨ 0x41 ≤ page.toNat) {i : Nat} (hi : i < 256)
    (s : State) (m : Memory) :
    memRead (pageAddress page i) (s.withOam m) = ((memRead (pageAddress page i) s).1, s.withOam m) := by
  have haddr := toNat_pageAddress page hi
  obtain h | ⟨h, h'⟩ | h : page.toNat ≤ 0x1F ∨ (0x41 ≤ page.toNat ∧ page.toNat ≤ 0x7F) ∨ 0x80 ≤ page.toNat := by omega
  · have hram := cpuDecode_of_ram (addr := pageAddress page i) (by omega)
    rw [memRead_of_ram hram, memRead_of_ram hram]
    rfl
  · rw [memRead_of_emptyPage h h' hi, memRead_of_emptyPage h h' hi]
  · have hprg := cpuDecode_eq_prg_iff.2 ⟨show 0x8000 ≤ (pageAddress page i).toNat by omega, rfl⟩
    rw [memRead_of_prg hprg, memRead_of_prg hprg]
    rfl

/-- On a page that is read without a side effect the transfers change OAM alone. -/
theorem afterTransfers_of_quietPage {page : Byte} (hpage : page.toNat ≤ 0x1F ∨ 0x41 ≤ page.toNat) (s : State) {i : Nat}
    (hi : i ≤ 256) : ∃ m, afterTransfers page s i = s.withOam m := by
  induction i with
  | zero => exact ⟨s.ppu.oam, rfl⟩
  | succ i ih =>
    obtain ⟨m, hm⟩ := ih (by omega)
    rw [afterTransfers_succ_eq page s (by omega), hm, memRead_withOam_of_quietPage hpage (by omega)]
    exact ⟨_, rfl⟩

theorem oamDma_eq_addStall (page : Byte) (s : State) : oamDma page s = (afterTransfers page s 256).addStall 512 := rfl

/-- Settles O36: the `i`-th state is that after the first `i` transfers; on a page without side effects it differs from the first in OAM
alone, which no bus read outside the PPU's window looks at. -/
theorem oamDmaCopiesAPage : Obligations.OamDmaCopiesAPage := by
  intro page s
  have hbyte {i : Nat} (hi : i < 256) := oam_afterTransfers page s hi le_rfl
  have hquiet (hpage : page.toNat ≤ 0x1F ∨ 0x41 ≤ page.toNat) {i : Nat} (hi : i < 256) :
      Memory.read .oam (oamDma page s).ppu.oam i = (memRead (pageAddress page i) s).1 := by
    obtain ⟨m, hm⟩ := afterTransfers_of_quietPage hpage s hi.le
    have := hbyte hi
    rw [hm, memRead_withOam_of_quietPage hpage hi] at this
    exact this
  refine ⟨oamDma page s, rfl, ?cpu, ⟨afterTransfers page s, rfl, rfl, fun i hi => ⟨_, _, rfl, ?transfer, ?written, hbyte hi⟩⟩,
    fun hpage => ⟨?frame, fun i hi => hquiet hpage hi⟩, fun h h' i hi => ?zeros⟩
  case cpu => exact congrArg (fun c : Cpu => { c with stall := c.stall + 512 }) (oamDma_fold_cpu page (List.range 256) s)
  case transfer =>
    rw [afterTransfers_succ_eq page s hi]
    rfl
  case written => exact oam_afterTransfers_succ page s hi
  case frame =>
    obtain ⟨m, hm⟩ := afterTransfers_of_quietPage hpage s le_rfl
    rw [oamDma_eq_addStall, hm]
    rfl
  case zeros => rw [hquiet (.inr h) hi, memRead_of_emptyPage h h' hi]

end Sys2Proof.Machine
end

section
/-! PROOFS of the exception family: the faults of a step, the NMI entry with the return from it, and the trace. -/

namespace Sys2Proof.Machine

/-! ### The faults of an instruction (R411 to R414)

The operand of a row has the form that its routine takes, so a routine fails by its bus writes alone. -/

/-- A fault that the ROM write policy of a state lets a bus write raise (R414). -/
def RomFault (s : State) (f : Fault) : Prop := s.params.romWritePolicy = .fault ∧ ∃ a, f = .romWrite a

theorem RomFault.of_params {s t : State} {f : Fault} (h : RomFault t f) (hparams : t.params = s.params) : RomFault s f := by
  unfold RomFault at *
  rwa [← hparams]

theorem memWrite_error {addr : Word} {b : Byte} {s : State} {f : Fault} (h : memWrite addr b s = .error f) : RomFault s f := by
  rcases memWrite_cases addr b s with ⟨_, _, e⟩ | ⟨_, _, _, _, e, _⟩ | ⟨_, e⟩ | ⟨_, e⟩ | ⟨_, e⟩ | e | ⟨hpolicy, a, e⟩ <;>
    cases h.symm.trans e
  exact ⟨hpolicy, a, rfl⟩

/-- The mnemonics that take an immediate only (R282 to R288). -/
def immediateMnemonics : List Mnemonic := [.anc, .alr, .arr, .axs, .xaa, .lxa]

theorem mode_of_immediateMnemonic (i : Instr) : i.row.mnemonic ∈ immediateMnemonics → i.row.mode = .immediate := by
  cases i <;> simp only [Instr.row] <;> decide

theorem mode_of_shift (i : Instr) : i.row.mnemonic ∈ shifts → i.row.mode = .accumulator ∨ i.row.mode ∈ addressModes := by
  cases i <;> simp only [Instr.row] <;> decide

section
variable {i : Instr} {s : State} {e : Fault}

theorem storing_error {v : State → Byte} {ea : Word} (hea : (operandsAt i s).operand = .address ea)
    (h : storing v i.row (operandsAt i s) (resolvedAt i s) = .error e) : RomFault s e := by
  rw [storing_eq i s hea] at h
  split at h <;> cases h
  exact (memWrite_error ‹_›).of_params (resolvedAt_params i s)

theorem modifying_error {f : Byte → State → Byte × State} {g : Byte → State → State} {ea : Word}
    (hea : (operandsAt i s).operand = .address ea) (hf : ∀ b s, (f b s).2.params = s.params)
    (h : modifying f g i.row (operandsAt i s) (resolvedAt i s) = .error e) : RomFault s e := by
  rw [modifying_eq i s hea] at h
  split at h <;> cases h
  exact (memWrite_error ‹_›).of_params ((hf _ _).trans (operandReadAt_params i s))

theorem storeHi_error {reg idx : Byte} {row : Row} {ops : Operands} {ea : Word} (hea : ops.operand = .address ea)
    (h : storeHi reg idx row ops s = .error e) : RomFault s e := by
  rw [storeHi_eq _ _ _ _ _ hea] at h
  split at h <;> cases h
  exact memWrite_error ‹_›

theorem shifting_error {f : Byte → State → Byte × State} (hm : i.row.mnemonic ∈ shifts) (hf : ∀ b s, (f b s).2.params = s.params)
    (h : shifting f i.row (operandsAt i s) (resolvedAt i s) = .error e) : RomFault s e := by
  unfold shifting at h
  rcases mode_of_shift i hm with hacc | haddress
  case inl =>
    rw [hacc] at h
    cases h
  case inr =>
    obtain ⟨ea, hea⟩ := exists_address_of_resolvesTo (operandsAt_operand i s) haddress
    split at h
    case h_1 => cases h
    all_goals exact modifying_error hea hf h

theorem reading_ne_error {f : Byte → State → State} (hm : i.row.mnemonic ∈ valueMnemonics) :
    reading f i.row (operandsAt i s) (resolvedAt i s) ≠ .error e := by
  rw [reading_eq i s (operand_ne_none_of_mnemonic hm s)]
  nofun

theorem immediateOnly_ne_error {f : Byte → State → State} (hm : i.row.mnemonic ∈ immediateMnemonics) :
    immediateOnly f i.row (operandsAt i s) (resolvedAt i s) ≠ .error e := by
  have hresolves := operandsAt_operand i s
  rw [mode_of_immediateMnemonic i hm] at hresolves
  obtain ⟨b, hb⟩ := hresolves
  rw [immediateOnly_eq i s hb]
  nofun

theorem branching_ne_error {f : Flag} {wanted : Bool} {row : Row} {ops : Operands} {ea : Word} (hea : ops.operand = .address ea) :
    branching f wanted row ops s ≠ .error e := by
  rw [branching_eq _ _ _ hea]
  split <;> nofun

theorem jsrRoutine_ne_error {row : Row} {ops : Operands} {ea : Word} (hea : ops.operand = .address ea) :
    jsrRoutine row ops s ≠ .error e := by
  unfold jsrRoutine effectiveAddress
  rw [hea, push16_eq]
  nofun

/-- A push and an interrupt write the stack, which is RAM. -/
theorem pushing_ne_error {f : State → Except Fault State} {row : Row} {ops : Operands} {t : State} (hf : f s = .ok t) :
    pushing f row ops s ≠ .error e := by
  rw [pushing, hf]
  nofun

/-- A routine fails by a ROM write alone (R413, R414): its operand has the form that it takes. -/
theorem routineOf_error (h : routineOf i.row.mnemonic i.row (operandsAt i s) (resolvedAt i s) = .error e) : RomFault s e := by
  have haddress := fun hm => exists_address_of_mnemonic (i := i) hm s
  have hvalue := fun f => reading_ne_error (i := i) (s := s) (e := e) (f := f)
  have himmediate := fun f => immediateOnly_ne_error (i := i) (s := s) (e := e) (f := f)
  have hshift := fun f => shifting_error (i := i) (s := s) (e := e) (f := f)
  generalize i.row.mnemonic = m at h haddress hvalue himmediate hshift
  cases m <;> dsimp only [routineOf] at h
  case lda | ldx | ldy | lax | las | and | ora | eor | adc | sbc | cmp | cpx | cpy | bit => exact absurd h (hvalue _ (by decide))
  case anc | alr | arr | axs | xaa | lxa => exact absurd h (himmediate _ (by decide))
  case tax | tay | tsx | txa | txs | tya | inx | iny | dex | dey | clc | cld | cli | clv | sec | sed | sei | nop | kil | pla | plp | rts |
    rti => cases h
  case asl | lsr | rol | ror => exact hshift _ (by decide) (fun _ _ => rfl) h
  case pha | php => exact absurd h (pushing_ne_error (push8_eq _ _))
  case brk =>
    obtain ⟨-, -, -, -, hlo, hhi⟩ := cpuDecode_vectors
    exact absurd h (pushing_ne_error (takeInterrupt_eq hlo hhi _ _ _))
  all_goals obtain ⟨ea, hea⟩ := haddress (by decide)
  case sta | stx | sty | sax => exact storing_error hea h
  case inc | dec | dcp | isb | slo | rla | sre | rra => exact modifying_error hea (fun _ _ => rfl) h
  case ahx | shy | shx | tas => exact (storeHi_error hea h).of_params (resolvedAt_params i s)
  case bcc | bcs | beq | bmi | bne | bpl | bvc | bvs => exact absurd h (branching_ne_error hea)
  case jmp =>
    rw [jmpRoutine_eq i s hea] at h
    cases h
  case jsr => exact absurd h (jsrRoutine_ne_error hea)

end

/-- What executing an instruction can end in but its next state: the fault of a row that does not execute, at the PC, or a ROM write. -/
theorem exec_cases (i : Instr) (s : State) : (∃ t, exec i s = .next t) ∨
    (rowExecutes i.row s.params = false ∧ exec i s = .fault (.unknownOpcode i.row.opcode s.cpu.pc)) ∨
    ∃ f, exec i s = .fault f ∧ RomFault s f := by
  cases hrow : rowExecutes i.row s.params with
  | false =>
    rw [exec_eq_execute]
    exact .inr (.inl ⟨rfl, execute_gated i _ s hrow⟩)
  | true =>
    cases hr : routineOf i.row.mnemonic i.row (operandsAt i s) (resolvedAt i s) with
    | ok result => exact .inl ⟨_, exec_of_routine_ok hrow hr⟩
    | error f => exact .inr (.inr ⟨f, exec_of_routine_error hrow hr, routineOf_error hr⟩)

/-- A row that does not execute is a halt slot, or a gated one with the gate closed (R281, R293). -/
theorem tier_of_not_rowExecutes {row : Row} {params : Params} (h : rowExecutes row params = false) :
    row.tier = .halt ∨ (row.tier = .gated ∧ params.admitTier3 = false) := by
  unfold rowExecutes at h
  cases htier : row.tier with
  | official | normative =>
    rw [htier] at h
    cases h
  | gated =>
    rw [htier] at h
    exact .inr ⟨rfl, h⟩
  | halt => exact .inl rfl

/-! ### The interrupt entry and the return from it (R401 to R406, R233) -/

theorem nmiEntry_eq (s : State) : nmiEntry s = .ok { s with
    nmiLine := false
    ram := Memory.write .ram (Memory.write .ram (Memory.write .ram s.ram (0x100 + s.cpu.sp.toNat) s.cpu.pc.hi)
      (0x100 + (s.cpu.sp - 1#8).toNat) s.cpu.pc.lo) (0x100 + (s.cpu.sp - 2#8).toNat) (pushedByNmi s.cpu.p)
    cpu := { s.cpu with
      sp := s.cpu.sp - 3#8
      p := setFlag s.cpu.p .i true
      pc := Word.ofBytes (s.cart.prgByte 0x7FFB) (s.cart.prgByte 0x7FFA)
      stall := s.cpu.stall + s.params.nmiStallAdd } } := by
  obtain ⟨hlo, hhi, -⟩ := cpuDecode_vectors
  unfold nmiEntry
  dsimp only
  rw [takeInterrupt_eq hlo hhi]
  simp only [sub_sub]
  rfl

theorem cpuAction_of_nmi {s t : State} (hstall : s.cpu.stall = 0) (hline : s.nmiLine = true) (h : nmiEntry s = .ok t) :
    cpuAction s = .next t := by
  rw [cpuAction, if_neg (by omega), if_pos hline, h]

/-- Settles O55: with no stall and the line set the CPU's action is the entry. -/
theorem nmiEntryTakesTheVector : Obligations.NmiEntryTakesTheVector := by
  rintro s _ rfl hstall hline
  refine ⟨setFlag (takeInput s).cpu.p .i true, pushedByNmi (takeInput s).cpu.p, fun f => getFlag_setFlag .., fun f => ?pushed, ?step⟩
  case pushed =>
    rw [getFlag_pushedByNmi]
    cases f <;> rfl
  case step =>
    obtain ⟨hlo, hhi, -⟩ := cpuDecode_vectors
    rw [step_of_cpuAction (cpuAction_of_nmi hstall hline (nmiEntry_eq _)), memRead_of_prg (addr := 0xFFFA#16) hlo,
      memRead_of_prg (addr := 0xFFFB#16) hhi, hstall, Nat.zero_add]

/-- The three slots of an entry are distinct, so the stack gives back what it pushed (R402, R233). -/
theorem read_of_entered {m m' : Memory} {sp b : Byte} {w : Word}
    (h : m' = Memory.write .ram (Memory.write .ram (Memory.write .ram m (0x100 + sp.toNat) w.hi) (0x100 + (sp - 1#8).toNat) w.lo)
      (0x100 + (sp - 2#8).toNat) b) :
    Word.ofBytes (Memory.read .ram m' (0x100 + sp.toNat)) (Memory.read .ram m' (0x100 + (sp - 1#8).toNat)) = w ∧
      Memory.read .ram m' (0x100 + (sp - 2#8).toNat) = b := by
  have hhi : 0x100 + sp.toNat ≠ 0x100 + (sp - 2#8).toNat := by bv_omega
  have hlo : 0x100 + (sp - 1#8).toNat ≠ 0x100 + (sp - 2#8).toNat := by bv_omega
  rw [h, Memory.read_write, if_neg hhi, Memory.read_write .ram _ _ (0x100 + (sp - 1#8).toNat), if_neg hlo]
  exact ⟨ofBytes_of_pushed16 rfl, by rw [Memory.read_write, if_pos rfl]⟩

/-- Settles O56: `RTI` pulls the three bytes of the entry; the forced bits 5 and 4 are those of every running machine (R26). -/
theorem rtiReturnsFromAnInterrupt : Obligations.RtiReturnsFromAnInterrupt := by
  rintro s t u ⟨hu, hb⟩ hentry hram hsp
  obtain ⟨p, hexec, hp⟩ := (breakAndReturnComplete u).2
  rw [nmiEntry_eq] at hentry
  cases hentry
  have hsp3 : u.cpu.sp + 3#8 = s.cpu.sp := by rw [hsp]; exact sub_add_cancel ..
  have hsp2 : u.cpu.sp + 2#8 = s.cpu.sp - 1#8 := by rw [← hsp3]; exact (add_sub_assoc u.cpu.sp 3#8 1#8).symm
  have hsp1 : u.cpu.sp + 1#8 = s.cpu.sp - 2#8 := by rw [← hsp3]; exact (add_sub_assoc u.cpu.sp 3#8 2#8).symm
  obtain ⟨hpc, hpushed⟩ := read_of_entered hram
  rw [hsp1, hpushed] at hp
  rw [hsp3, hsp2, hpc] at hexec
  refine ⟨_, hexec, rfl, rfl, status_ext fun f => ?_⟩
  rw [hp]
  cases f
  case u => exact hu.symm
  case b => exact hb.symm
  all_goals exact getFlag_pushedByNmi ..

/-! ### The faults of a step (R411 to R416, R461) -/

/-- What the CPU's branch of a cycle can end in: its next state, or a fault that the spec lets a program raise. -/
theorem cpuAction_cases (s : State) : (∃ t, cpuAction s = .next t) ∨
    ∃ f, cpuAction s = .fault f ∧ Fault.reachable s.params f ∧ ∀ opcode a, f = .unknownOpcode opcode a → a = s.cpu.pc := by
  by_cases hstall : 0 < s.cpu.stall
  case pos => exact .inl ⟨_, cpuAction_of_stall hstall⟩
  have hstall : s.cpu.stall = 0 := by omega
  cases hline : s.nmiLine with
  | true => exact .inl ⟨_, cpuAction_of_nmi hstall hline (nmiEntry_eq s)⟩
  | false =>
    have hparams := (fetch_frame s).params
    rw [cpuAction_of_execute hstall hline]
    rcases exec_cases (fetch s).1 (fetch s).2 with hnext | ⟨hrow, hfault⟩ | ⟨f, hfault, hpolicy, a, rfl⟩
    case inl => exact .inl hnext
    case inr.inl =>
      refine .inr ⟨_, hfault, ⟨(fetch s).1, rfl, hparams ▸ tier_of_not_rowExecutes hrow⟩, fun opcode a h => ?_⟩
      cases h
      rw [(fetch_frame s).cpu]
    case inr.inr => exact .inr ⟨_, hfault, hparams ▸ hpolicy, nofun⟩

/-- Settles O53: the step ends as the CPU's branch of its cycle does, and the host's input changes no parameter. -/
theorem stepFaultsAreTheSpecs : Obligations.StepFaultsAreTheSpecs := by
  intro s
  obtain ⟨-, -, hparams, -⟩ := takeInput_frame s
  unfold step machineCycle
  rcases cpuAction_cases (takeInput s) with ⟨t, ht⟩ | ⟨f, hf, hreachable, hpc⟩
  case inl =>
    rw [ht]
    exact ⟨nofun, nofun⟩
  case inr =>
    rw [hf]
    refine ⟨nofun, fun g hg => ?_⟩
    cases hg
    exact ⟨hparams ▸ hreachable, hpc⟩

/-! ### The trace (R409, R440) -/

theorem resolve_bytes (o : Operand) (s : State) : (resolve o s).1.bytes = o.bytes := by cases o <;> rfl

theorem traceRecord_eq_none {s : State} (h : 0 < (takeInput s).cpu.stall ∨ (takeInput s).nmiLine = true) :
    traceRecord s = none := if_pos h

section
variable {s : State} (hstall : (takeInput s).cpu.stall = 0) (hline : (takeInput s).nmiLine = false)
include hstall hline

theorem traceRecord_of_fault {f : Fault} (h : cpuAction (takeInput s) = .fault f) : traceRecord s = none := by
  rw [cpuAction_of_execute hstall hline] at h
  simp [traceRecord, hstall, hline, h]

/-- The record of a retired instruction: what was fetched, the resolved operand, and the registers before the fetch (R440). -/
theorem traceRecord_of_next {t : State} {i : Instr} {s1 : State} (hi : fetch (takeInput s) = (i, s1))
    (h : cpuAction (takeInput s) = .next t) : traceRecord s = some
      { pc0 := (takeInput s).cpu.pc, opcode := i.row.opcode, bytes := (operandsAt i s1).bytes, mnemonic := i.row.mnemonic
        official := i.row.official, operand := (operandsAt i s1).operand
        a := (takeInput s).cpu.a, x := (takeInput s).cpu.x, y := (takeInput s).cpu.y, p := (takeInput s).cpu.p
        sp := (takeInput s).cpu.sp, scanline := (takeInput s).ppu.scanline, dot := (takeInput s).ppu.dot
        cyc := (takeInput s).cpu.cyc } := by
  rw [cpuAction_of_execute hstall hline, hi] at h
  simp [traceRecord, hstall, hline, hi, h, operandsAt]

end

/-- A step that faults does so in the CPU's branch of its cycle (R430). -/
theorem step_fault {s : State} {f : Fault} (h : step s = .fault f) : cpuAction (takeInput s) = .fault f := by
  unfold step machineCycle at h
  split at h <;> cases h
  assumption

/-- Settles O60: the record is made by the outcome of the instruction that the cycle executes. -/
theorem traceRecordsTheInstruction : Obligations.TraceRecordsTheInstruction := by
  rintro s _ rfl
  refine ⟨traceRecord_eq_none, fun f hf => ?fault, fun t hstall hline ht => ?next⟩
  case fault =>
    by_cases hidle : 0 < (takeInput s).cpu.stall ∨ (takeInput s).nmiLine = true
    case pos => exact traceRecord_eq_none hidle
    case neg =>
      obtain ⟨hstall, hline⟩ := not_or.1 hidle
      exact traceRecord_of_fault (by omega) (by simpa using hline) (step_fault hf)
  case next =>
    obtain ⟨v, hv, -⟩ := step_next ht
    refine ⟨_, traceRecord_of_next hstall hline rfl hv, rfl, ?bytes, rfl, rfl, rfl, rfl, rfl⟩
    case bytes => exact congrArg _ (resolve_bytes _ _)

end Sys2Proof.Machine
end

section
/-! PROOFS of the reset family: a host reset, and the values right after power-up and reset. -/

namespace Sys2Proof.Machine

/-- Settles O58: the reset falls after the input's button levels, and its vector read has no side effect. (The definition has the
obligation's own name.) -/
theorem hostResetSequence : Obligations.ResetSequence := by
  rintro s _ i rest hinputs hreset rfl
  obtain ⟨-, -, hlo, hhi, -⟩ := cpuDecode_vectors
  have h : takeInput s = resetSequence { s with
      inputs := rest
      pad1 := { s.pad1 with buttons := i.buttons1 }
      pad2 := { s.pad2 with buttons := i.buttons2 } } := by
    simp only [takeInput, hinputs, hreset, if_true]
  rw [h, resetSequence_eq, memRead_of_prg (addr := 0xFFFC#16) hlo, memRead_of_prg (addr := 0xFFFD#16) hhi]
  exact ⟨fun f => getFlag_setFlag .., rfl⟩

/-- Settles O57: the state is given field by field, and its memories list nothing, so they read as their fill. -/
theorem resetValues : Obligations.ResetValues := by
  refine ⟨rfl, rfl, rfl, rfl, rfl, rfl, rfl, rfl, rfl, rfl, rfl, rfl, rfl, rfl, rfl, rfl, rfl, fun _ => rfl, rfl, fun i => ⟨rfl, ?_⟩,
    fun _ => ⟨rfl, rfl, rfl, rfl⟩⟩
  revert i
  decide

end Sys2Proof.Machine
end
